-- ==== Sys2Proof/Word.lean ====
section
/-! DEFINITION. The byte, the only machine word of the engine (00_scope.md R9). -/

namespace Sys2Proof

/-- A byte: an 8-bit unsigned value, bit 7 the most significant (R9). -/
abbrev Byte := BitVec 8

end Sys2Proof
end

