-- ==== Sys2Proof/Config.lean ====
section
/-! DEFINITION. The configuration record of 00_scope.md R5 to R8, and the one free value of the model.
The record is plain data. Every machine state carries one (log entry 1), so a statement about every state is a
statement about every configuration. -/

namespace Sys2Proof

/-- The twelve timeout classes of 30_encoding.md R66, in code order. -/
inductive TimeoutClass where
  | preamble | cvRead | cvWrite | flashErase | flashWrite | decoderIdRead | crcXorQuery
  | zsuDecoderId | zsuBlockCount | zsuSecurity1 | zsuSecurity2 | zsuBlock
  deriving DecidableEq, Repr

/-- A total function into the naturals as plain data: the listed keys, and one value for every other key.
Every function on bytes or on timeout classes has such a table (R8, R210). -/
structure Table (κ : Type) where
  entries : List (κ × Nat)
  other   : Nat
  deriving DecidableEq, Repr

/-- The value of a table at a key: that of the first entry listed for it. -/
def Table.find {κ : Type} [DecidableEq κ] (t : Table κ) (k : κ) : Nat :=
  match t.entries.find? (fun e => e.1 == k) with
  | some e => e.2
  | none => t.other

/-- The parameters of R5. `PULSE_W` is not among them: R5 gives its value, see `Config.pulseWidth`. -/
structure Config where
  /-- `BANNER`: the entry banner, 10 bytes. -/
  banner   : List Byte
  /-- `PRE0`: the first reserved preamble code. -/
  pre0     : Byte
  /-- `PRE1`: the second reserved preamble code. -/
  pre1     : Byte
  /-- `MAX_FRAME`: capacity of the packet buffer, and length of a ZPP flash-write frame. -/
  maxFrame : Nat
  /-- `DATA_SIZE`, by decoder identifier. -/
  dataSize : Table Byte
  /-- `BOOT_SIZE`, by decoder identifier. -/
  bootSize : Table Byte
  /-- `TIMEOUT`, by timeout class. The engine never reads it (R5, R211). -/
  timeout  : Table TimeoutClass
  deriving DecidableEq, Repr

namespace Config

/-- `PULSE_W`, the width of the pulse-count port (R5, R209). -/
def pulseWidth : Nat := 8

/-- `DS(id)`: the data-block size of a decoder (R11, R210). -/
def ds (c : Config) (id : Byte) : Nat := c.dataSize.find id

/-- `BL(id)`: the bootloader size of a decoder (R11, R210). -/
def bl (c : Config) (id : Byte) : Nat := c.bootSize.find id

/-- A byte allowed in the banner: printable ASCII or carriage return (R7). -/
def bannerByte (b : Byte) : Bool := (0x20 ≤ b.toNat && b.toNat ≤ 0x7E) || b == 0x0D

/-- Configuration well-formedness (R7). -/
abbrev WellFormed (c : Config) : Prop :=
  c.pre0 ≠ c.pre1 ∧ c.banner.length = 10 ∧ (∀ b ∈ c.banner, bannerByte b = true) ∧
    (0x0D : Byte) ∈ c.banner ∧ 10 ≤ c.maxFrame

/-- The test configuration TC of 95_test_vectors.md section 0. Its banner and preamble codes are the candidates of R6,
`PRESUMED`; the other numbers are TC's own and claim nothing about the hardware (log entry 2). No source gives a
timeout duration, so that table is 0, `DESIGN CHOICE` (log entry 3). -/
def test : Config where
  banner   := [0x44, 0x45, 0x43, 0x55, 0x50, 0x5F, 0x45, 0x49, 0x4E, 0x0D]
  pre0     := 0xBF
  pre1     := 0xEF
  maxFrame := 12
  dataSize := ⟨[(0x90, 64), (0x91, 2), (0x92, 32), (0x93, 0), (0x94, 16), (0x95, 32), (0x96, 1), (0x97, 3)], 8⟩
  bootSize := ⟨[(0x90, 2048), (0x91, 252), (0x92, 2048), (0x95, 2000)], 0⟩
  timeout  := ⟨[], 0⟩

/-- FREE VALUE (log entry 16): what `rsp_code` carries while `rsp_some = 0`, which R65 leaves unspecified; the argument
tells one response from another. -/
opaque freeRspCode : Nat → Byte

end Config

end Sys2Proof
end

