-- ==== Sys2Proof/Syntax.lean ====
section
/-! DEFINITION. The 14 states of the engine, what the host may hand it, and its instructions: one constructor for each
row of spec/opcode_table.json (30_encoding.md R70). A row whose byte the table fixes whole (mask 0xFF) has no operand;
every other row carries the byte `b` of the step; HOST_RESET carries none. -/

namespace Sys2Proof

/-- The state register `st` (10_state.md R20), in code order. -/
inductive St where
  | entry | preamble | zppDispatch | zppReadCv | zppWriteCv | zppFlashErase | zppFlashWrite | zppDecoderId
  | zppCrcOrXorQuery | zsuDecoderId | zsuBlockCount | zsuSecurityByte1 | zsuSecurityByte2 | zsuBlocks
  deriving DecidableEq, Repr

/-- The two operations of the host (60_exceptions.md R207): deliver a byte, or reset. -/
inductive HostAction where
  | rx (b : Byte)
  | reset
  deriving DecidableEq, Repr

/-- The 37 behaviours of the opcode table, in its order. -/
inductive Instr where
  /-- `ENTRY_SKIP` (R100). -/
  | entrySkip (b : Byte)
  /-- `ENTRY_FALLTHROUGH` (R101). -/
  | entryFallthrough (b : Byte)
  /-- `PRE_PREAMBLE` (R102). -/
  | prePreamble (b : Byte)
  /-- `PRE_SELECT_ZPP` (R103). -/
  | preSelectZpp (b : Byte)
  /-- `PRE_SELECT_ZSU` (R104). -/
  | preSelectZsu (b : Byte)
  /-- `ZPP_CMD_READ_CV`, byte 0x01 (R121). -/
  | zppCmdReadCv
  /-- `ZPP_CMD_WRITE_CV`, byte 0x02 (R122). -/
  | zppCmdWriteCv
  /-- `ZPP_CMD_FLASH_ERASE`, byte 0x03 (R123). -/
  | zppCmdFlashErase
  /-- `ZPP_CMD_DECODER_ID`, byte 0x04 (R124). -/
  | zppCmdDecoderId
  /-- `ZPP_CMD_FLASH_WRITE`, byte 0x05 (R125). -/
  | zppCmdFlashWrite
  /-- `ZPP_CMD_WRITE_CV_EXT`, byte 0x06 (R126). -/
  | zppCmdWriteCvExt
  /-- `ZPP_CMD_CRC_XOR_QUERY`, byte 0x07 (R127). -/
  | zppCmdCrcXorQuery
  /-- `ZPP_CMD_UNKNOWN` (R128). -/
  | zppCmdUnknown (b : Byte)
  /-- `ZPP_READ_CV_FRAME_BYTE` (R129). -/
  | zppReadCvFrameByte (b : Byte)
  /-- `ZPP_READ_CV_FRAME_END` (R130). -/
  | zppReadCvFrameEnd (b : Byte)
  /-- `ZPP_READ_CV_PROBE` (R131). -/
  | zppReadCvProbe (b : Byte)
  /-- `ZPP_READ_CV_LAST` (R132). -/
  | zppReadCvLast (b : Byte)
  /-- `ZPP_WRITE_CV_BYTE` (R133). -/
  | zppWriteCvByte (b : Byte)
  /-- `ZPP_WRITE_CV_END` (R134). -/
  | zppWriteCvEnd (b : Byte)
  /-- `ZPP_ERASE_BYTE` (R135). -/
  | zppEraseByte (b : Byte)
  /-- `ZPP_ERASE_END_OK`, byte 0xFF (R136). -/
  | zppEraseEndOk
  /-- `ZPP_ERASE_END_BAD` (R137). -/
  | zppEraseEndBad (b : Byte)
  /-- `ZPP_FLASH_WRITE_BYTE` (R138). -/
  | zppFlashWriteByte (b : Byte)
  /-- `ZPP_FLASH_WRITE_END` (R139). -/
  | zppFlashWriteEnd (b : Byte)
  /-- `ZPP_DECODER_ID_BYTE` (R140). -/
  | zppDecoderIdByte (b : Byte)
  /-- `ZPP_DECODER_ID_LAST` (R141). -/
  | zppDecoderIdLast (b : Byte)
  /-- `ZPP_CRC_XOR_BYTE` (R142). -/
  | zppCrcXorByte (b : Byte)
  /-- `ZPP_CRC_XOR_LAST` (R143). -/
  | zppCrcXorLast (b : Byte)
  /-- `ZSU_DECODER_ID` (R162). -/
  | zsuDecoderId (b : Byte)
  /-- `ZSU_BLOCK_COUNT` (R163). -/
  | zsuBlockCount (b : Byte)
  /-- `ZSU_SEC1_OK`, byte 0x55 (R164). -/
  | zsuSec1Ok
  /-- `ZSU_SEC1_BAD` (R165). -/
  | zsuSec1Bad (b : Byte)
  /-- `ZSU_SEC2_OK`, byte 0xAA (R166). -/
  | zsuSec2Ok
  /-- `ZSU_SEC2_BAD` (R167). -/
  | zsuSec2Bad (b : Byte)
  /-- `ZSU_BLOCK_BYTE` (R168). -/
  | zsuBlockByte (b : Byte)
  /-- `ZSU_BLOCK_END` (R169). -/
  | zsuBlockEnd (b : Byte)
  /-- `HOST_RESET`, no byte (R87). -/
  | hostReset
  deriving DecidableEq, Repr

end Sys2Proof
end

