-- ==== Sys2Proof/WellFormed.lean ====
section
/-! DEFINITION. When a row of the opcode table is the one a byte selects: the table's columns `state`, `match`, `mask` and
`condition`, written row by row (30_encoding.md R70). The decoder does not call this file; that the two agree is a
statement. -/

namespace Sys2Proof

/-- What the meaning of a byte depends on (R60): the configuration, the state register, the decoder identifier and the
bytes collected so far. -/
structure Ctx where
  cfg : Config
  st  : St
  did : Byte
  pkt : List Byte
  deriving DecidableEq, Repr

/-- `n = len(pkt) + 1`, the count the buffer will hold once `b` is appended (R60). -/
def Ctx.n (c : Ctx) : Nat := c.pkt.length + 1

/-- The table's pattern test: `(b & mask) = match` (R70). -/
def patternFits (b mask pattern : Byte) : Bool := b &&& mask == pattern

/-- The write-CV frame length that the table's column `condition` gives for the first byte of the frame (R70). -/
def tableWriteLen (first : Byte) : Nat := if first = 0x02 then 5 else 6

/-- The first byte of the frame once `b` is appended. -/
def Ctx.first (c : Ctx) (b : Byte) : Byte := (c.pkt ++ [b]).headD b

/-- The erase security condition of the rows ZPP_ERASE_END_OK and ZPP_ERASE_END_BAD (R70). -/
def Ctx.eraseSecure (c : Ctx) (b : Byte) : Bool :=
  c.pkt[1]? == some 0x55 && c.pkt[2]? == some 0xFF && b == 0xFF

/-- An instruction is well formed in a context when every column of its row holds there. -/
def WellFormed (c : Ctx) : Instr → Bool
  | .entrySkip b          => c.st == .entry && c.cfg.banner.contains b
  | .entryFallthrough b   => c.st == .entry && !c.cfg.banner.contains b
  | .prePreamble b        => c.st == .preamble && (b == c.cfg.pre0 || b == c.cfg.pre1)
  | .preSelectZpp b       => c.st == .preamble && patternFits b 0x80 0x00 && !(b == c.cfg.pre0 || b == c.cfg.pre1)
  | .preSelectZsu b       => c.st == .preamble && patternFits b 0x80 0x80 && !(b == c.cfg.pre0 || b == c.cfg.pre1)
  | .zppCmdReadCv         => c.st == .zppDispatch
  | .zppCmdWriteCv        => c.st == .zppDispatch
  | .zppCmdFlashErase     => c.st == .zppDispatch
  | .zppCmdDecoderId      => c.st == .zppDispatch
  | .zppCmdFlashWrite     => c.st == .zppDispatch
  | .zppCmdWriteCvExt     => c.st == .zppDispatch
  | .zppCmdCrcXorQuery    => c.st == .zppDispatch
  | .zppCmdUnknown b      => c.st == .zppDispatch && !(1 ≤ b.toNat && b.toNat ≤ 7)
  | .zppReadCvFrameByte _ => c.st == .zppReadCv && (c.n == 1 || c.n == 2)
  | .zppReadCvFrameEnd _  => c.st == .zppReadCv && c.n == 3
  | .zppReadCvProbe _     => c.st == .zppReadCv && 4 ≤ c.n && c.n ≤ 9
  | .zppReadCvLast _      => c.st == .zppReadCv && c.n == 10
  | .zppWriteCvByte b     => c.st == .zppWriteCv && c.n < tableWriteLen (c.first b)
  | .zppWriteCvEnd b      => c.st == .zppWriteCv && c.n == tableWriteLen (c.first b)
  | .zppEraseByte _       => c.st == .zppFlashErase && 1 ≤ c.n && c.n ≤ 3
  | .zppEraseEndOk        => c.st == .zppFlashErase && c.n == 4 && c.eraseSecure 0xFF
  | .zppEraseEndBad b     => c.st == .zppFlashErase && c.n == 4 && !c.eraseSecure b
  | .zppFlashWriteByte _  => c.st == .zppFlashWrite && c.n < c.cfg.maxFrame
  | .zppFlashWriteEnd _   => c.st == .zppFlashWrite && c.n == c.cfg.maxFrame
  | .zppDecoderIdByte _   => c.st == .zppDecoderId && 1 ≤ c.n && c.n ≤ 7
  | .zppDecoderIdLast _   => c.st == .zppDecoderId && c.n == 8
  | .zppCrcXorByte _      => c.st == .zppCrcOrXorQuery && 1 ≤ c.n && c.n ≤ 7
  | .zppCrcXorLast _      => c.st == .zppCrcOrXorQuery && c.n == 8
  | .zsuDecoderId _       => c.st == .zsuDecoderId
  | .zsuBlockCount _      => c.st == .zsuBlockCount
  | .zsuSec1Ok            => c.st == .zsuSecurityByte1
  | .zsuSec1Bad b         => c.st == .zsuSecurityByte1 && b != 0x55
  | .zsuSec2Ok            => c.st == .zsuSecurityByte2
  | .zsuSec2Bad b         => c.st == .zsuSecurityByte2 && b != 0xAA
  | .zsuBlockByte _       => c.st == .zsuBlocks && c.n < c.cfg.ds c.did + 2
  | .zsuBlockEnd _        => c.st == .zsuBlocks && c.n == c.cfg.ds c.did + 2
  | .hostReset            => true

end Sys2Proof
end

