-- ==== Sys2Proof/Decode.lean ====
section
/-! DEFINITION. The decoder and the encoder. A byte has a meaning only in a context (30_encoding.md R60): dispatch goes by
`st` alone (40_receive_dispatch.md R83), and the handler then chooses the row. Each handler's choice is written once, as a
function of what it gives for each of its rows, so that the decoder and the `goto` of the machine share it. -/

namespace Sys2Proof

/-- What the decoder answers: the row, or, by name, that no row of the table covers this count in this state. The second
happens only outside the bounds of 10_state.md R29 (log entry 11). -/
inductive Decoded where
  | row (i : Instr)
  | noRow (st : St) (n : Nat)
  deriving DecidableEq, Repr

/-- `L`, the length of a write-CV frame, from its first byte (42_zpp.md R133). -/
def writeCvLen (first : Byte) : Nat := if first = 0x02 then 5 else 6

/-- `DS(did) + 2`, the length of a ZSU block frame (R64, 43_zsu.md R168). -/
def blockLen (cfg : Config) (did : Byte) : Nat := cfg.ds did + 2

/-- `b[7]`, which tells the ZSU branch from the ZPP branch (R61). -/
def bit7 (b : Byte) : Bool := b.getLsbD 7

/-- The Entry handler: a banner byte is skipped, any other falls through (R100, R101). -/
def Ctx.selectEntry {α : Type} (c : Ctx) (b : Byte) (skip fall : α) : α :=
  if b ∈ c.cfg.banner then skip else fall

/-- The Preamble handler: the preamble codes first, then bit 7 (R61, R102 to R104). -/
def Ctx.selectPreamble {α : Type} (c : Ctx) (b : Byte) (code zpp zsu : α) : α :=
  if b = c.cfg.pre0 ∨ b = c.cfg.pre1 then code else if bit7 b then zsu else zpp

/-- The ZppDispatch handler: seven command codes (R62, R121 to R128). -/
def selectDispatch {α : Type} (b : Byte) (readCv writeCv erase decoderId flashWrite writeCvExt crcXor unknown : α) : α :=
  if b = 0x01 then readCv else if b = 0x02 then writeCv else if b = 0x03 then erase
  else if b = 0x04 then decoderId else if b = 0x05 then flashWrite else if b = 0x06 then writeCvExt
  else if b = 0x07 then crcXor else unknown

/-- The ZppReadCv handler, by the count `n` (R129 to R132). -/
def Ctx.selectReadCv {α : Type} (c : Ctx) (byte frame probe last none : α) : α :=
  if c.n ≤ 2 then byte else if c.n = 3 then frame else if c.n ≤ 9 then probe else if c.n = 10 then last else none

/-- The ZppWriteCv handler, by `n` and the frame's first byte (R133, R134). -/
def Ctx.selectWriteCv {α : Type} (c : Ctx) (b : Byte) (byte last none : α) : α :=
  if c.n < writeCvLen ((c.pkt ++ [b]).headD b) then byte
  else if c.n = writeCvLen ((c.pkt ++ [b]).headD b) then last else none

/-- The security bytes of an erase frame, required `0x55, 0xFF, 0xFF` (R69, R136). -/
def eraseOk (frame : List Byte) : Bool := frame.extract 1 4 == [0x55, 0xFF, 0xFF]

/-- The ZppFlashErase handler, by `n` and, on the fourth byte, by the security bytes (R135 to R137). -/
def Ctx.selectErase {α : Type} (c : Ctx) (b : Byte) (byte ok bad none : α) : α :=
  if c.n ≤ 3 then byte else if c.n = 4 then (if eraseOk (c.pkt ++ [b]) then ok else bad) else none

/-- The ZppFlashWrite handler: the frame is `MAX_FRAME` bytes long (R138, R139). -/
def Ctx.selectFlashWrite {α : Type} (c : Ctx) (byte last none : α) : α :=
  if c.n < c.cfg.maxFrame then byte else if c.n = c.cfg.maxFrame then last else none

/-- The handlers of ZppDecoderId and ZppCrcOrXorQuery: a command byte and seven probes (R140 to R143). -/
def Ctx.selectProbes {α : Type} (c : Ctx) (byte last none : α) : α :=
  if c.n ≤ 7 then byte else if c.n = 8 then last else none

/-- The handlers of the two security states: the literal is compared first (R164 to R167, R205). -/
def selectLiteral {α : Type} (b literal : Byte) (ok bad : α) : α := if b = literal then ok else bad

/-- The ZsuBlocks handler: the frame is `DS(did) + 2` bytes long (R168, R169). -/
def Ctx.selectBlocks {α : Type} (c : Ctx) (byte last none : α) : α :=
  if c.n < blockLen c.cfg c.did then byte else if c.n = blockLen c.cfg c.did then last else none

/-- Dispatch by `st` alone (R83), then the handler's choice. -/
def decodeByte (c : Ctx) (b : Byte) : Decoded :=
  match c.st with
  | .entry => c.selectEntry b (.row (.entrySkip b)) (.row (.entryFallthrough b))
  | .preamble => c.selectPreamble b (.row (.prePreamble b)) (.row (.preSelectZpp b)) (.row (.preSelectZsu b))
  | .zppDispatch =>
    selectDispatch b (.row .zppCmdReadCv) (.row .zppCmdWriteCv) (.row .zppCmdFlashErase) (.row .zppCmdDecoderId)
      (.row .zppCmdFlashWrite) (.row .zppCmdWriteCvExt) (.row .zppCmdCrcXorQuery) (.row (.zppCmdUnknown b))
  | .zppReadCv =>
    c.selectReadCv (.row (.zppReadCvFrameByte b)) (.row (.zppReadCvFrameEnd b)) (.row (.zppReadCvProbe b))
      (.row (.zppReadCvLast b)) (.noRow c.st c.n)
  | .zppWriteCv => c.selectWriteCv b (.row (.zppWriteCvByte b)) (.row (.zppWriteCvEnd b)) (.noRow c.st c.n)
  | .zppFlashErase =>
    c.selectErase b (.row (.zppEraseByte b)) (.row .zppEraseEndOk) (.row (.zppEraseEndBad b)) (.noRow c.st c.n)
  | .zppFlashWrite =>
    c.selectFlashWrite (.row (.zppFlashWriteByte b)) (.row (.zppFlashWriteEnd b)) (.noRow c.st c.n)
  | .zppDecoderId => c.selectProbes (.row (.zppDecoderIdByte b)) (.row (.zppDecoderIdLast b)) (.noRow c.st c.n)
  | .zppCrcOrXorQuery => c.selectProbes (.row (.zppCrcXorByte b)) (.row (.zppCrcXorLast b)) (.noRow c.st c.n)
  | .zsuDecoderId => .row (.zsuDecoderId b)
  | .zsuBlockCount => .row (.zsuBlockCount b)
  | .zsuSecurityByte1 => selectLiteral b 0x55 (.row .zsuSec1Ok) (.row (.zsuSec1Bad b))
  | .zsuSecurityByte2 => selectLiteral b 0xAA (.row .zsuSec2Ok) (.row (.zsuSec2Bad b))
  | .zsuBlocks => c.selectBlocks (.row (.zsuBlockByte b)) (.row (.zsuBlockEnd b)) (.noRow c.st c.n)

/-- The decoder: a byte by its context, the host reset always as itself (R60, R87). -/
def decode (c : Ctx) : HostAction → Decoded
  | .rx b => decodeByte c b
  | .reset => .row .hostReset

/-- The encoder: what the host hands the engine to make it run the row (R60, R70). -/
def encode : Instr → HostAction
  | .entrySkip b          => .rx b
  | .entryFallthrough b   => .rx b
  | .prePreamble b        => .rx b
  | .preSelectZpp b       => .rx b
  | .preSelectZsu b       => .rx b
  | .zppCmdReadCv         => .rx 0x01
  | .zppCmdWriteCv        => .rx 0x02
  | .zppCmdFlashErase     => .rx 0x03
  | .zppCmdDecoderId      => .rx 0x04
  | .zppCmdFlashWrite     => .rx 0x05
  | .zppCmdWriteCvExt     => .rx 0x06
  | .zppCmdCrcXorQuery    => .rx 0x07
  | .zppCmdUnknown b      => .rx b
  | .zppReadCvFrameByte b => .rx b
  | .zppReadCvFrameEnd b  => .rx b
  | .zppReadCvProbe b     => .rx b
  | .zppReadCvLast b      => .rx b
  | .zppWriteCvByte b     => .rx b
  | .zppWriteCvEnd b      => .rx b
  | .zppEraseByte b       => .rx b
  | .zppEraseEndOk        => .rx 0xFF
  | .zppEraseEndBad b     => .rx b
  | .zppFlashWriteByte b  => .rx b
  | .zppFlashWriteEnd b   => .rx b
  | .zppDecoderIdByte b   => .rx b
  | .zppDecoderIdLast b   => .rx b
  | .zppCrcXorByte b      => .rx b
  | .zppCrcXorLast b      => .rx b
  | .zsuDecoderId b       => .rx b
  | .zsuBlockCount b      => .rx b
  | .zsuSec1Ok            => .rx 0x55
  | .zsuSec1Bad b         => .rx b
  | .zsuSec2Ok            => .rx 0xAA
  | .zsuSec2Bad b         => .rx b
  | .zsuBlockByte b       => .rx b
  | .zsuBlockEnd b        => .rx b
  | .hostReset            => .reset

/-- A row is selected in a context when the decoder gives that very row for its encoding. A meaning runs only there. -/
def Ctx.selects (c : Ctx) (i : Instr) : Bool := decode c (encode i) == .row i

/-- The state in which the opcode table reads a byte that comes with no state (log entry 17): that of the row with the
longest fixed pattern the byte fits. -/
def tableState (b : Byte) : St :=
  selectDispatch b .zppDispatch .zppDispatch .zppDispatch .zppDispatch .zppDispatch .zppDispatch .zppDispatch
    (if b = 0x55 then .zsuSecurityByte1 else if b = 0xAA then .zsuSecurityByte2
      else if b = 0xFF then .zppFlashErase else .preamble)

/-- The bytes collected before it: an erase frame short of its last byte for 0xFF, none otherwise (log entry 17). -/
def tablePacket (b : Byte) : List Byte := if b = 0xFF then [0x03, 0x55, 0xFF] else []

/-- The table's bits as the host's action: one byte, or no bits for HOST_RESET (R70). -/
def tableAction (nbits w : Nat) : HostAction := if nbits = 0 then .reset else .rx (BitVec.ofNat 8 w)

/-- The row the decoder reads from a table word: at most one byte, read in the context of `tableState` (log entry 17). -/
def decodeTableWord (nbits w : Nat) : Option Instr :=
  let b := BitVec.ofNat 8 w
  if 8 < nbits then none
  else match decode ⟨Config.test, tableState b, 0, tablePacket b⟩ (tableAction nbits w) with
    | .row i => some i
    | .noRow _ _ => none

end Sys2Proof
end

