-- ==== Sys2Proof/Machine/State.lean ====
section
/-! DEFINITION. The state of the engine (10_state.md R20 to R24), its transmitter port (60_exceptions.md R209), and, as
plain data, what the environment gives a step and takes from it (R26, log entries 1 and 5). -/

namespace Sys2Proof.Machine

/-- The fault reasons of 60_exceptions.md R202, in code order. They are values of the `fault` register, not outcomes. -/
inductive FaultReason where
  | packetOverflow
  | dataSizeZero
  | blockCountNegative
  | blockCountUnderflow
  deriving DecidableEq, Repr

/-- The response of a byte step (30_encoding.md R65). -/
inductive Response where
  | none | ack | nak
  deriving DecidableEq, Repr

/-- A transmit request: the bytes in sending order and the timeout class (R209). -/
structure TxRequest where
  bytes : List Byte
  op    : TimeoutClass
  deriving DecidableEq, Repr

/-- What leaves the engine, in the notation of R71: `tx [bytes] op=CLASS` and `=> response`. -/
inductive Event where
  | tx (r : TxRequest)
  | rsp (r : Response)
  deriving DecidableEq, Repr

/-- One action of the environment. -/
inductive EnvEvent where
  /-- `rx b @p`: the host delivers `b`; if the step transmits, the transmitter answers `some p`, or never (`none`). -/
  | rx (b : Byte) (answer : Option Nat)
  /-- `reset`: the host's reset (R87). -/
  | reset
  /-- Power-on reset (R240); `contents` is what the packet storage holds when power comes up, which R240 leaves open. -/
  | por (contents : List Byte)
  deriving DecidableEq, Repr

/-- The packet storage `pkt_mem` as index and byte pairs (R23, R40). Its canonical form is `Memory.wf`. -/
abbrev Memory := List Host.Cell

/-- The outcomes of a step that has no next state. -/
inductive Fault where
  /-- A step is asked of an engine whose `fault` register holds a reason (R203, I15). Raised by `exec` and `step`. Safe:
  the spec has no step there. -/
  | engineStopped (r : FaultReason)
  /-- A step is asked while a transmit request waits for an answer that never comes (I8, R216). Raised by `exec` and
  `step`. Safe: the engine waits for ever. -/
  | transmitterSilent
  deriving DecidableEq, Repr

/-- The rejections. -/
inductive Refusal where
  /-- An instruction of the table without a meaning. Raised by `exec` only, on no instruction of this model. Safe. -/
  | notModelled (mnemonic : String)
  /-- A row asked to run where the decoder does not select it: wrong state, count or byte. Raised by `exec` only, never by
  `step`. Safe: the row is no step of the hardware there (log entry 10). -/
  | rowNotSelected
  /-- No row of the table covers this count in this state. Raised by `step` outside the bounds of R29 only. Safe (log
  entry 11). -/
  | noRow
  deriving DecidableEq, Repr

/-- The machine. -/
structure State where
  /-- The configuration (R5). No step writes it (R246). -/
  cfg    : Config
  /-- `st` (R20). -/
  st     : St
  /-- `did` (R21). -/
  did    : Byte
  /-- `bc` (R22). -/
  bc     : BitVec 32
  /-- `pkt_mem` (R23). -/
  pktMem : Memory
  /-- `pkt_len` (R23). -/
  pktLen : Nat
  /-- `fault` (R24). -/
  fault  : Option FaultReason
  /-- The transmitter port: the request while `tx_req` is high, `none` while it is low (R209, R240). -/
  tx     : Option TxRequest
  /-- The transmitter's answer to the request of the coming step (R26, R209). -/
  txAns  : Option Nat
  /-- Requests and responses so far, oldest first. No rule reads it (log entry 8). -/
  trace  : List Event
  /-- What the environment does next, oldest first (log entry 5). -/
  env    : List EnvEvent
  deriving DecidableEq, Repr

/-- Power-on reset of R32 and R240. The configuration is the test configuration TC (log entry 2), nothing is listed in the
packet storage (log entry 12), and the environment has done and will do nothing (log entry 22). -/
def State.reset : State where
  cfg    := Config.test
  st     := .entry
  did    := 0
  bc     := 0
  pktMem := []
  pktLen := 0
  fault  := none
  tx     := none
  txAns  := none
  trace  := []
  env    := []

end Sys2Proof.Machine
end

