-- ==== Sys2Proof/Machine/Ops.lean ====
section
/-! DEFINITION. The named operations: the packet storage, the writes of each register, and the pseudocode primitives of
00_scope.md R11. `append` and `transmit` take the rest of the handler as an argument, because a fault or a transmitter that
never answers ends the handler there. -/

namespace Sys2Proof.Machine

/-- What an instruction or a step answers. -/
abbrev Result := Host.Outcome State Fault Refusal

/-! ### The packet storage -/

/-- What an index that is not listed reads as: 0x00, `DESIGN CHOICE` (log entry 12). -/
def Memory.unlisted : Byte := 0x00

/-- The byte at an index. -/
def Memory.read : Memory → Nat → Byte
  | [], _ => Memory.unlisted
  | c :: m, a => if c.1 = a then c.2 else Memory.read m a

/-- The storage with an index unlisted. -/
def Memory.erase (m : Memory) (a : Nat) : Memory := m.filter (fun c => c.1 != a)

/-- The storage with a cell listed before the first one of a higher index. -/
def Memory.insert : Memory → Nat → Byte → Memory
  | [], a, v => [(a, v)]
  | c :: m, a, v => if a < c.1 then (a, v) :: c :: m else c :: Memory.insert m a v

/-- Write one byte. Writing what an unlisted index reads as unlists the index. -/
def Memory.write (m : Memory) (a : Nat) (v : Byte) : Memory :=
  if v = Memory.unlisted then m.erase a else (m.erase a).insert a v

/-- The canonical form: indexes strictly rising, and no cell that says what an unlisted index reads as. -/
abbrev Memory.wf (m : Memory) : Prop :=
  m.Pairwise (fun c d => c.1 < d.1) ∧ ∀ c ∈ m, c.2 ≠ Memory.unlisted

/-- Write bytes one after the other from an index on. -/
def Memory.writeAll : Memory → Nat → List Byte → Memory
  | m, _, [] => m
  | m, a, v :: vs => Memory.writeAll (m.write a v) (a + 1) vs

/-! ### Views -/

/-- `pkt`, the bytes `pkt_mem[0..pkt_len-1]` (R23). -/
def State.pkt (s : State) : List Byte := (List.range s.pktLen).map s.pktMem.read

/-- What the decoder sees of a state (R60). -/
def State.ctx (s : State) : Ctx := ⟨s.cfg, s.st, s.did, s.pkt⟩

/-- `rx_ready`: high only between steps and with `fault = none` (R89). -/
def State.rxReady (s : State) : Bool := s.fault.isNone && s.tx.isNone

/-- Why a state with `rx_ready` low takes no step (R203, I8). -/
def State.stopReason (s : State) : Fault :=
  match s.fault with
  | some r => .engineStopped r
  | none => .transmitterSilent

/-! ### Register writes -/

/-- `st <- x`. -/
def State.setSt (s : State) (x : St) : State := { s with st := x }

/-- `did <- x`. -/
def State.setDid (s : State) (x : Byte) : State := { s with did := x }

/-- `bc <- x`. -/
def State.setBc (s : State) (x : BitVec 32) : State := { s with bc := x }

/-- The two writes of `Append` below capacity (R41). -/
def State.store (s : State) (v : Byte) : State :=
  { s with pktMem := s.pktMem.write s.pktLen v, pktLen := s.pktLen + 1 }

/-- `Clear()` (R42): the length only; the bytes stay where they are. -/
def State.clear (s : State) : State := { s with pktLen := 0 }

/-- `fault <- r`, the register write of fault entry (R203). -/
def State.setFault (s : State) (r : FaultReason) : State := { s with fault := some r }

/-- The transmitter port takes a request: `tx_req` goes high, and the request is on the link for good. -/
def State.openTx (s : State) (r : TxRequest) : State := { s with tx := some r, trace := s.trace ++ [.tx r] }

/-- The transmitter has answered: `tx_req` goes low. -/
def State.closeTx (s : State) : State := { s with tx := none }

/-- The response leaves the engine: one `rsp_valid` pulse (R89). -/
def State.emit (s : State) (r : Response) : State := { s with trace := s.trace ++ [.rsp r] }

/-- The environment's next action is taken, with the transmitter's answer for its step. -/
def State.accept (s : State) (rest : List EnvEvent) (answer : Option Nat) : State :=
  { s with env := rest, txAns := answer }

/-! ### Pseudocode primitives -/

/-- `Reset()` (R87). It leaves `fault` alone. -/
def State.sessionReset (s : State) : State := (((s.clear).setSt .entry).setDid 0).setBc 0

/-- `ToDispatch()` (R120): `Clear(); st <- ZppDispatch`. -/
def State.toDispatch (s : State) : State := s.clear.setSt .zppDispatch

/-- `raise Fault(reason)` (R203): taking the exception. The register is written, the step ends with no response, and what
the handler did before stays done. The next state is the stopped engine. -/
def State.raise (s : State) (r : FaultReason) : Result := .next (s.setFault r)

/-- `return r`: the step ends with its response. -/
def State.respond (s : State) (r : Response) : Result := .next (s.emit r)

/-- `Append(v)` (R41): at capacity it raises `PacketOverflow` and writes nothing. -/
def State.append (s : State) (v : Byte) (k : State → Result) : Result :=
  if s.cfg.maxFrame ≤ s.pktLen then s.raise .packetOverflow else k (s.store v)

/-- Collect the byte, transmit nothing: a frame that is not complete (R129, R133, R135, R138, R168). -/
def collect (b : Byte) (s : State) : Result :=
  s.append b fun s => s.respond .none

/-- The pulse-count port is `PULSE_W` bits wide and saturates (R209). -/
def portPulses (p : Nat) : Nat := min p (2 ^ Config.pulseWidth - 1)

/-- `Transmit(bytes, op)` (R11, R209): the request goes out, and the handler goes on with the pulse count once the
transmitter answers. Without an answer the step never ends: the state stays as it is with `tx_req` high (I8). -/
def State.transmit (s : State) (bytes : List Byte) (op : TimeoutClass) (k : Nat → State → Result) : Result :=
  match s.txAns with
  | none => .next (s.openTx ⟨bytes, op⟩)
  | some p => k (portPulses p) (s.openTx ⟨bytes, op⟩).closeTx

/-- Power-on reset (R240): every register to the value of R32, no request pending, the storage holding whatever comes up. -/
def State.powerOn (s : State) (contents : List Byte) : State :=
  { s with
    st := .entry, did := 0, bc := 0, pktLen := 0, fault := none, tx := none,
    pktMem := Memory.writeAll [] 0 (contents.take s.cfg.maxFrame) }

/-- The gate of every row: a stopped or waiting engine takes no step (R82, R203), and a row runs only where the decoder
selects it (R70). -/
def runRow (i : Instr) (s : State) (k : State → Result) : Result :=
  if s.rxReady then (if s.ctx.selects i then k s else .refused .rowNotSelected) else .fault s.stopReason

/-! ### What a step begins with -/

/-- Either a row to run and the state it runs in, or an outcome that is settled without one. -/
inductive Fetched where
  | run (i : Instr) (s : State)
  | settled (o : Result)

/-- The environment's next action. Power-on reset is taken in every state (R204, R240); a byte or a host reset only while
`rx_ready` is high (R89, R203, R243); with nothing pending the engine is idle and holds every register (R92). -/
def fetch (s : State) : Fetched :=
  match s.env with
  | .por contents :: rest => .settled (.next ((s.accept rest s.txAns).powerOn contents))
  | .rx b answer :: rest =>
    if s.rxReady then
      match decode s.ctx (.rx b) with
      | .row i => .run i (s.accept rest answer)
      | .noRow _ _ => .settled (.refused .noRow)
    else .settled (.fault s.stopReason)
  | .reset :: rest =>
    if s.rxReady then .run .hostReset (s.accept rest s.txAns) else .settled (.fault s.stopReason)
  | [] => if s.rxReady then .settled (.next s) else .settled (.fault s.stopReason)

/-- The host puts a table word before everything else it will do (log entry 17). -/
def State.placeWord (s : State) (nbits w : Nat) : State :=
  match tableAction nbits w with
  | .reset => { s with env := .reset :: s.env }
  | .rx b =>
    { s with
      env := .rx b (some 0) :: s.env, st := tableState b,
      pktMem := Memory.writeAll s.pktMem 0 (tablePacket b),
      pktLen := (tablePacket b).length }

end Sys2Proof.Machine
end

