-- ==== Sys2Proof/Machine/Flags.lean ====
section
/-! DEFINITION. The response mapper (40_receive_dispatch.md R80), the one flag register `fault` as the host sees it (R24),
and the codes the engine's ports carry (30_encoding.md R65, R66). -/

namespace Sys2Proof.Machine

/-- `Map(p)` (R80): 1 pulse is NAK, 2 pulses are ACK, any other count is no response. -/
def mapPulses (p : Nat) : Response := if p = 1 then .nak else if p = 2 then .ack else .none

/-- `rsp_some` (R65). -/
def Response.isSome : Response → Bool
  | .none => false
  | .ack => true
  | .nak => true

/-- `rsp_code` (R65); `k` tells one response from another where the code is unspecified (log entry 16). -/
def Response.code (k : Nat) : Response → Byte
  | .ack => 0x1C
  | .nak => 0xFC
  | .none => Config.freeRspCode k

/-- The code of a fault reason (R202). -/
def FaultReason.code : FaultReason → BitVec 3
  | .packetOverflow => 1
  | .dataSizeZero => 2
  | .blockCountNegative => 3
  | .blockCountUnderflow => 4

/-- `fault_out` (R24, R89): 0 for `none`. -/
def State.faultOut (s : State) : BitVec 3 :=
  match s.fault with
  | none => 0
  | some r => r.code

/-- `tx_op` (R66). -/
def opCode : TimeoutClass → BitVec 4
  | .preamble => 0
  | .cvRead => 1
  | .cvWrite => 2
  | .flashErase => 3
  | .flashWrite => 4
  | .decoderIdRead => 5
  | .crcXorQuery => 6
  | .zsuDecoderId => 7
  | .zsuBlockCount => 8
  | .zsuSecurity1 => 9
  | .zsuSecurity2 => 10
  | .zsuBlock => 11

/-- The hardware code of the state register (R20). -/
def stCode : St → BitVec 4
  | .entry => 0
  | .preamble => 1
  | .zppDispatch => 2
  | .zppReadCv => 3
  | .zppWriteCv => 4
  | .zppFlashErase => 5
  | .zppFlashWrite => 6
  | .zppDecoderId => 7
  | .zppCrcOrXorQuery => 8
  | .zsuDecoderId => 9
  | .zsuBlockCount => 10
  | .zsuSecurityByte1 => 11
  | .zsuSecurityByte2 => 12
  | .zsuBlocks => 13

end Sys2Proof.Machine
end

