-- ==== Sys2Proof/Machine/Operands.lean ====
section
/-! DEFINITION. The values the engine computes from bytes (30_encoding.md R69): the block count, and the checksum predicate
that no rule reads. The frame lengths and the erase security bytes are in Decode, which chooses rows by them. -/

namespace Sys2Proof.Machine

/-- `BlockCount(B, id)` (43_zsu.md R161), in exact arithmetic: a zero data size is tested first, then a negative numerator;
the doubling for 32-byte blocks follows the truncating division. -/
def blockCount (cfg : Config) (b id : Byte) : Except FaultReason Nat :=
  let num : Int := ((b.toNat : Int) + 1) * 256 - (cfg.bl id : Int)
  if cfg.ds id = 0 then .error .dataSizeZero
  else if num < 0 then .error .blockCountNegative
  else
    let q := num.toNat / cfg.ds id
    .ok (if cfg.ds id = 32 then q * 2 else q)

/-- The running XOR of some bytes, from 0x00 (R170; the seed is `PRESUMED`, log entry 23). -/
def runningXor (bs : List Byte) : Byte := bs.foldl (· ^^^ ·) 0x00

/-- `XorOk(f)` of R170 for a block frame with `d` payload bytes. Informative: no rule reads it. -/
def xorOk (d : Nat) (frame : List Byte) : Bool := frame[d + 1]? == some (runningXor (frame.extract 1 (d + 1)))

end Sys2Proof.Machine
end

