-- ==== Sys2Proof/Machine/ZppFrame.lean ====
section
/-! DEFINITION. The rows of the ZPP operation states (42_zpp.md R129 to R143), each over a few shared shapes, and the
handlers that a command byte is handed on to (R84). -/

namespace Sys2Proof.Machine

/-! ### The shapes -/

/-- Collect the byte and transmit it alone, staying in the state (R131, R140, R142). -/
def probe (b : Byte) (op : TimeoutClass) (s : State) : Result :=
  s.append b fun s => s.transmit [b] op fun p s => s.respond (mapPulses p)

/-- Collect the last probe, transmit it alone, and return to dispatch (R132, R141, R143). -/
def lastProbe (b : Byte) (op : TimeoutClass) (s : State) : Result :=
  s.append b fun s => s.transmit [b] op fun p s => s.toDispatch.respond (mapPulses p)

/-- Collect the last byte, transmit the whole frame, and return to dispatch (R134, R136, R139). -/
def frameEnd (b : Byte) (op : TimeoutClass) (s : State) : Result :=
  s.append b fun s => s.transmit s.pkt op fun p s => s.toDispatch.respond (mapPulses p)

/-! ### Read CV -/

/-- `ZPP_READ_CV_FRAME_BYTE` (R129). -/
def execZppReadCvFrameByte (b : Byte) (s : State) : Result :=
  runRow (.zppReadCvFrameByte b) s (collect b)

/-- `ZPP_READ_CV_FRAME_END` (R130): the three-byte frame goes out, and `pkt` is kept as the counter. -/
def execZppReadCvFrameEnd (b : Byte) (s : State) : Result :=
  runRow (.zppReadCvFrameEnd b) s fun s =>
    s.append b fun s => s.transmit s.pkt .cvRead fun p s => s.respond (mapPulses p)

/-- `ZPP_READ_CV_PROBE` (R131). -/
def execZppReadCvProbe (b : Byte) (s : State) : Result :=
  runRow (.zppReadCvProbe b) s (probe b .cvRead)

/-- `ZPP_READ_CV_LAST` (R132). -/
def execZppReadCvLast (b : Byte) (s : State) : Result :=
  runRow (.zppReadCvLast b) s (lastProbe b .cvRead)

/-! ### Write CV -/

/-- `ZPP_WRITE_CV_BYTE` (R133). -/
def execZppWriteCvByte (b : Byte) (s : State) : Result :=
  runRow (.zppWriteCvByte b) s (collect b)

/-- `ZPP_WRITE_CV_END` (R134). -/
def execZppWriteCvEnd (b : Byte) (s : State) : Result :=
  runRow (.zppWriteCvEnd b) s (frameEnd b .cvWrite)

/-! ### Erase flash -/

/-- `ZPP_ERASE_BYTE` (R135). -/
def execZppEraseByte (b : Byte) (s : State) : Result :=
  runRow (.zppEraseByte b) s (collect b)

/-- `ZPP_ERASE_END_OK` (R136). -/
def execZppEraseEndOk (s : State) : Result :=
  runRow .zppEraseEndOk s (frameEnd 0xFF .flashErase)

/-- `ZPP_ERASE_END_BAD` (R137): the frame is abandoned, nothing is transmitted. -/
def execZppEraseEndBad (b : Byte) (s : State) : Result :=
  runRow (.zppEraseEndBad b) s fun s => s.append b fun s => s.toDispatch.respond .none

/-! ### Write flash block -/

/-- `ZPP_FLASH_WRITE_BYTE` (R138). -/
def execZppFlashWriteByte (b : Byte) (s : State) : Result :=
  runRow (.zppFlashWriteByte b) s (collect b)

/-- `ZPP_FLASH_WRITE_END` (R139). -/
def execZppFlashWriteEnd (b : Byte) (s : State) : Result :=
  runRow (.zppFlashWriteEnd b) s (frameEnd b .flashWrite)

/-! ### Read decoder id and CRC/XOR query -/

/-- `ZPP_DECODER_ID_BYTE` (R140). -/
def execZppDecoderIdByte (b : Byte) (s : State) : Result :=
  runRow (.zppDecoderIdByte b) s (probe b .decoderIdRead)

/-- `ZPP_DECODER_ID_LAST` (R141). -/
def execZppDecoderIdLast (b : Byte) (s : State) : Result :=
  runRow (.zppDecoderIdLast b) s (lastProbe b .decoderIdRead)

/-- `ZPP_CRC_XOR_BYTE` (R142). -/
def execZppCrcXorByte (b : Byte) (s : State) : Result :=
  runRow (.zppCrcXorByte b) s (probe b .crcXorQuery)

/-- `ZPP_CRC_XOR_LAST` (R143). -/
def execZppCrcXorLast (b : Byte) (s : State) : Result :=
  runRow (.zppCrcXorLast b) s (lastProbe b .crcXorQuery)

/-! ### The handlers, for `goto` -/

/-- `goto ZppReadCv`. -/
def gotoZppReadCv (b : Byte) (s : State) : Result :=
  s.ctx.selectReadCv (execZppReadCvFrameByte b s) (execZppReadCvFrameEnd b s) (execZppReadCvProbe b s)
    (execZppReadCvLast b s) (.refused .noRow)

/-- `goto ZppWriteCv`. -/
def gotoZppWriteCv (b : Byte) (s : State) : Result :=
  s.ctx.selectWriteCv b (execZppWriteCvByte b s) (execZppWriteCvEnd b s) (.refused .noRow)

/-- `goto ZppFlashErase`. -/
def gotoZppFlashErase (b : Byte) (s : State) : Result :=
  s.ctx.selectErase b (execZppEraseByte b s) (execZppEraseEndOk s) (execZppEraseEndBad b s) (.refused .noRow)

/-- `goto ZppFlashWrite`. -/
def gotoZppFlashWrite (b : Byte) (s : State) : Result :=
  s.ctx.selectFlashWrite (execZppFlashWriteByte b s) (execZppFlashWriteEnd b s) (.refused .noRow)

/-- `goto ZppDecoderId`. -/
def gotoZppDecoderId (b : Byte) (s : State) : Result :=
  s.ctx.selectProbes (execZppDecoderIdByte b s) (execZppDecoderIdLast b s) (.refused .noRow)

/-- `goto ZppCrcOrXorQuery`. -/
def gotoZppCrcOrXorQuery (b : Byte) (s : State) : Result :=
  s.ctx.selectProbes (execZppCrcXorByte b s) (execZppCrcXorLast b s) (.refused .noRow)

end Sys2Proof.Machine
end

