-- ==== Sys2Proof/Machine/ZppDispatch.lean ====
section
/-! DEFINITION. The rows of ZppDispatch (42_zpp.md R121 to R128): a command byte clears the packet, sets the operation
state, and is handed on to it (R120). -/

namespace Sys2Proof.Machine

/-- `ZPP_CMD_READ_CV` (R121). -/
def execZppCmdReadCv (s : State) : Result :=
  runRow .zppCmdReadCv s fun s => gotoZppReadCv 0x01 (s.clear.setSt .zppReadCv)

/-- `ZPP_CMD_WRITE_CV` (R122). -/
def execZppCmdWriteCv (s : State) : Result :=
  runRow .zppCmdWriteCv s fun s => gotoZppWriteCv 0x02 (s.clear.setSt .zppWriteCv)

/-- `ZPP_CMD_FLASH_ERASE` (R123). -/
def execZppCmdFlashErase (s : State) : Result :=
  runRow .zppCmdFlashErase s fun s => gotoZppFlashErase 0x03 (s.clear.setSt .zppFlashErase)

/-- `ZPP_CMD_DECODER_ID` (R124). -/
def execZppCmdDecoderId (s : State) : Result :=
  runRow .zppCmdDecoderId s fun s => gotoZppDecoderId 0x04 (s.clear.setSt .zppDecoderId)

/-- `ZPP_CMD_FLASH_WRITE` (R125). -/
def execZppCmdFlashWrite (s : State) : Result :=
  runRow .zppCmdFlashWrite s fun s => gotoZppFlashWrite 0x05 (s.clear.setSt .zppFlashWrite)

/-- `ZPP_CMD_WRITE_CV_EXT` (R126). -/
def execZppCmdWriteCvExt (s : State) : Result :=
  runRow .zppCmdWriteCvExt s fun s => gotoZppWriteCv 0x06 (s.clear.setSt .zppWriteCv)

/-- `ZPP_CMD_CRC_XOR_QUERY` (R127). -/
def execZppCmdCrcXorQuery (s : State) : Result :=
  runRow .zppCmdCrcXorQuery s fun s => gotoZppCrcOrXorQuery 0x07 (s.clear.setSt .zppCrcOrXorQuery)

/-- `ZPP_CMD_UNKNOWN` (R128): the protocol stall. -/
def execZppCmdUnknown (b : Byte) (s : State) : Result :=
  runRow (.zppCmdUnknown b) s fun s => s.respond .none

/-- `goto ZppDispatch`. -/
def gotoZppDispatch (b : Byte) (s : State) : Result :=
  selectDispatch b (execZppCmdReadCv s) (execZppCmdWriteCv s) (execZppCmdFlashErase s) (execZppCmdDecoderId s)
    (execZppCmdFlashWrite s) (execZppCmdWriteCvExt s) (execZppCmdCrcXorQuery s) (execZppCmdUnknown b s)

end Sys2Proof.Machine
end

