-- ==== Sys2Proof/Machine/Zsu.lean ====
section
/-! DEFINITION. The rows of the ZSU branch (43_zsu.md R162 to R169). Every step that transmits answers `Map(p)`, whether or
not the state advances (R160). -/

namespace Sys2Proof.Machine

/-- `ZSU_DECODER_ID` (R162): a double pulse confirms the decoder identifier. -/
def execZsuDecoderId (b : Byte) (s : State) : Result :=
  runRow (.zsuDecoderId b) s fun s => s.transmit [b] .zsuDecoderId fun p s =>
    if p = 2 then ((s.setDid b).setSt .zsuBlockCount).respond (mapPulses p) else s.respond (mapPulses p)

/-- `ZSU_BLOCK_COUNT` (R163): a single pulse confirms; the block count is computed after the transmit and may fault. -/
def execZsuBlockCount (b : Byte) (s : State) : Result :=
  runRow (.zsuBlockCount b) s fun s => s.transmit [b] .zsuBlockCount fun p s =>
    if p = 1 then
      match blockCount s.cfg b s.did with
      | .error r => s.raise r
      | .ok q => ((s.setBc (BitVec.ofNat 32 q)).setSt .zsuSecurityByte1).respond (mapPulses p)
    else s.respond (mapPulses p)

/-- The matching security byte of R164 and R166: transmit it, and advance on a single pulse. -/
def securityOk (b : Byte) (op : TimeoutClass) (next : St) (s : State) : Result :=
  s.transmit [b] op fun p s =>
    if p = 1 then (s.setSt next).respond (mapPulses p) else s.respond (mapPulses p)

/-- The security violation of R165 and R167: the session is reset, the byte is dropped, nothing is transmitted. -/
def securityBad (s : State) : Result := s.sessionReset.respond .none

/-- `ZSU_SEC1_OK` (R164). -/
def execZsuSec1Ok (s : State) : Result :=
  runRow .zsuSec1Ok s (securityOk 0x55 .zsuSecurity1 .zsuSecurityByte2)

/-- `ZSU_SEC1_BAD` (R165). -/
def execZsuSec1Bad (b : Byte) (s : State) : Result :=
  runRow (.zsuSec1Bad b) s securityBad

/-- `ZSU_SEC2_OK` (R166). -/
def execZsuSec2Ok (s : State) : Result :=
  runRow .zsuSec2Ok s (securityOk 0xAA .zsuSecurity2 .zsuBlocks)

/-- `ZSU_SEC2_BAD` (R167). -/
def execZsuSec2Bad (b : Byte) (s : State) : Result :=
  runRow (.zsuSec2Bad b) s securityBad

/-- `ZSU_BLOCK_BYTE` (R168): the append may overflow the packet. -/
def execZsuBlockByte (b : Byte) (s : State) : Result :=
  runRow (.zsuBlockByte b) s (collect b)

/-- An accepted block (R169): `bc` counts down; at zero already it is a fault, reaching zero ends the session. The answer is
`Map(p)`, not that of `Reset()`. -/
def acceptBlock (p : Nat) (s : State) : Result :=
  if s.bc = 0 then s.raise .blockCountUnderflow
  else if s.bc - 1 = 0 then (s.setBc (s.bc - 1)).sessionReset.respond (mapPulses p)
  else (s.setBc (s.bc - 1)).respond (mapPulses p)

/-- `ZSU_BLOCK_END` (R169): the frame goes out and the packet is cleared whatever the answer; a double pulse accepts it. -/
def execZsuBlockEnd (b : Byte) (s : State) : Result :=
  runRow (.zsuBlockEnd b) s fun s => s.append b fun s => s.transmit s.pkt .zsuBlock fun p s =>
    if p = 2 then acceptBlock p s.clear else s.clear.respond (mapPulses p)

/-- `goto ZsuDecoderId`. -/
def gotoZsuDecoderId (b : Byte) (s : State) : Result := execZsuDecoderId b s

end Sys2Proof.Machine
end

