-- ==== Sys2Proof/Machine/Common.lean ====
section
/-! DEFINITION. The common phase (41_entry_preamble.md R100 to R104) and the host reset (40_receive_dispatch.md R87). A
handler that hands its byte on writes `st` first (R84). -/

namespace Sys2Proof.Machine

/-- `PRE_PREAMBLE` (R102): the code goes out alone, the state stays. -/
def execPrePreamble (b : Byte) (s : State) : Result :=
  runRow (.prePreamble b) s fun s => s.transmit [b] .preamble fun p s => s.respond (mapPulses p)

/-- `PRE_SELECT_ZPP` (R103). -/
def execPreSelectZpp (b : Byte) (s : State) : Result :=
  runRow (.preSelectZpp b) s fun s => gotoZppDispatch b (s.setSt .zppDispatch)

/-- `PRE_SELECT_ZSU` (R104): the byte is also the first decoder-id candidate. -/
def execPreSelectZsu (b : Byte) (s : State) : Result :=
  runRow (.preSelectZsu b) s fun s => gotoZsuDecoderId b (s.setSt .zsuDecoderId)

/-- `goto Preamble`. -/
def gotoPreamble (b : Byte) (s : State) : Result :=
  s.ctx.selectPreamble b (execPrePreamble b s) (execPreSelectZpp b s) (execPreSelectZsu b s)

/-- `ENTRY_SKIP` (R100). -/
def execEntrySkip (b : Byte) (s : State) : Result :=
  runRow (.entrySkip b) s fun s => s.respond .none

/-- `ENTRY_FALLTHROUGH` (R101): no byte is lost. -/
def execEntryFallthrough (b : Byte) (s : State) : Result :=
  runRow (.entryFallthrough b) s fun s => gotoPreamble b (s.setSt .preamble)

/-- `HOST_RESET` (R87): the session is reset, with no response on the port (R89). -/
def execHostReset (s : State) : Result :=
  runRow .hostReset s fun s => .next s.sessionReset

end Sys2Proof.Machine
end

