-- ==== Sys2Proof/Machine/Dispatch.lean ====
section
/-! DEFINITION. exec: one arm per constructor of Instr, each one call of that row's meaning. -/

namespace Sys2Proof.Machine

def exec (i : Instr) (s : State) : Host.Outcome State Fault Refusal :=
  match i with
  | .entrySkip b => Sys2Proof.Machine.execEntrySkip b s
  | .entryFallthrough b => Sys2Proof.Machine.execEntryFallthrough b s
  | .prePreamble b => Sys2Proof.Machine.execPrePreamble b s
  | .preSelectZpp b => Sys2Proof.Machine.execPreSelectZpp b s
  | .preSelectZsu b => Sys2Proof.Machine.execPreSelectZsu b s
  | .zppCmdReadCv => Sys2Proof.Machine.execZppCmdReadCv s
  | .zppCmdWriteCv => Sys2Proof.Machine.execZppCmdWriteCv s
  | .zppCmdFlashErase => Sys2Proof.Machine.execZppCmdFlashErase s
  | .zppCmdDecoderId => Sys2Proof.Machine.execZppCmdDecoderId s
  | .zppCmdFlashWrite => Sys2Proof.Machine.execZppCmdFlashWrite s
  | .zppCmdWriteCvExt => Sys2Proof.Machine.execZppCmdWriteCvExt s
  | .zppCmdCrcXorQuery => Sys2Proof.Machine.execZppCmdCrcXorQuery s
  | .zppCmdUnknown b => Sys2Proof.Machine.execZppCmdUnknown b s
  | .zppReadCvFrameByte b => Sys2Proof.Machine.execZppReadCvFrameByte b s
  | .zppReadCvFrameEnd b => Sys2Proof.Machine.execZppReadCvFrameEnd b s
  | .zppReadCvProbe b => Sys2Proof.Machine.execZppReadCvProbe b s
  | .zppReadCvLast b => Sys2Proof.Machine.execZppReadCvLast b s
  | .zppWriteCvByte b => Sys2Proof.Machine.execZppWriteCvByte b s
  | .zppWriteCvEnd b => Sys2Proof.Machine.execZppWriteCvEnd b s
  | .zppEraseByte b => Sys2Proof.Machine.execZppEraseByte b s
  | .zppEraseEndOk => Sys2Proof.Machine.execZppEraseEndOk s
  | .zppEraseEndBad b => Sys2Proof.Machine.execZppEraseEndBad b s
  | .zppFlashWriteByte b => Sys2Proof.Machine.execZppFlashWriteByte b s
  | .zppFlashWriteEnd b => Sys2Proof.Machine.execZppFlashWriteEnd b s
  | .zppDecoderIdByte b => Sys2Proof.Machine.execZppDecoderIdByte b s
  | .zppDecoderIdLast b => Sys2Proof.Machine.execZppDecoderIdLast b s
  | .zppCrcXorByte b => Sys2Proof.Machine.execZppCrcXorByte b s
  | .zppCrcXorLast b => Sys2Proof.Machine.execZppCrcXorLast b s
  | .zsuDecoderId b => Sys2Proof.Machine.execZsuDecoderId b s
  | .zsuBlockCount b => Sys2Proof.Machine.execZsuBlockCount b s
  | .zsuSec1Ok => Sys2Proof.Machine.execZsuSec1Ok s
  | .zsuSec1Bad b => Sys2Proof.Machine.execZsuSec1Bad b s
  | .zsuSec2Ok => Sys2Proof.Machine.execZsuSec2Ok s
  | .zsuSec2Bad b => Sys2Proof.Machine.execZsuSec2Bad b s
  | .zsuBlockByte b => Sys2Proof.Machine.execZsuBlockByte b s
  | .zsuBlockEnd b => Sys2Proof.Machine.execZsuBlockEnd b s
  | .hostReset => Sys2Proof.Machine.execHostReset s

end Sys2Proof.Machine
end

