-- ==== Sys2Proof/Machine/Step.lean ====
section
/-! DEFINITION. One step of the machine: the environment's next action (40_receive_dispatch.md R82, R87, R92;
70_reset_and_hazards.md R240), and the placing of a table word as that action. -/

namespace Sys2Proof.Machine

/-- One transaction (R14): fetch the next action, and run the row it selects. -/
def step (s : State) : Host.Outcome State Fault Refusal :=
  match fetch s with
  | .run i s' => exec i s'
  | .settled o => o

/-- The state with a table word as the host's next action, in the engine state the table gives its row (log entry 17). -/
def State.withFetchWord (s : State) (nbits w : Nat) : State := s.placeWord nbits w

end Sys2Proof.Machine
end

