-- ==== Sys2Proof/Safety.lean ====
section
/-! DEFINITION. The terms the claims use: the invariant of 10_state.md R28 to R30, the branches, the events of a step, what
two states that differ in stale bytes share, and the bytes of a full ZSU session (43_zsu.md R172). -/

namespace Sys2Proof.Machine

/-- The ZPP states (R20). -/
def isZpp : St → Bool
  | .entry => false
  | .preamble => false
  | .zppDispatch => true
  | .zppReadCv => true
  | .zppWriteCv => true
  | .zppFlashErase => true
  | .zppFlashWrite => true
  | .zppDecoderId => true
  | .zppCrcOrXorQuery => true
  | .zsuDecoderId => false
  | .zsuBlockCount => false
  | .zsuSecurityByte1 => false
  | .zsuSecurityByte2 => false
  | .zsuBlocks => false

/-- The session context is unused: `did = 0` and `bc = 0` (R30). -/
def State.NoContext (s : State) : Prop := s.did = 0 ∧ s.bc = 0

/-- The frame in assembly has between `lo` and `hi` bytes and starts with the command byte (R29). -/
def State.Frame (s : State) (cmd : Byte) (lo hi : Nat) : Prop :=
  lo ≤ s.pktLen ∧ s.pktLen ≤ hi ∧ s.pkt.head? = some cmd ∧ s.NoContext

/-- What R28, R29 and R30 say of a state between steps; after a confirmed block count the data size is positive (R168) and
`bc` is at most 65536 (R22). -/
def State.Framed (s : State) : Prop :=
  match s.st with
  | .entry => s.pktLen = 0 ∧ s.NoContext
  | .preamble => s.pktLen = 0 ∧ s.NoContext
  | .zppDispatch => s.pktLen = 0 ∧ s.NoContext
  | .zppReadCv => s.Frame 0x01 1 9
  | .zppWriteCv => s.Frame 0x02 1 4 ∨ s.Frame 0x06 1 5
  | .zppFlashErase => s.Frame 0x03 1 3
  | .zppFlashWrite => s.Frame 0x05 1 (s.cfg.maxFrame - 1)
  | .zppDecoderId => s.Frame 0x04 1 7
  | .zppCrcOrXorQuery => s.Frame 0x07 1 7
  | .zsuDecoderId => s.pktLen = 0 ∧ s.NoContext
  | .zsuBlockCount => s.pktLen = 0 ∧ s.bc = 0
  | .zsuSecurityByte1 => s.pktLen = 0 ∧ 1 ≤ s.cfg.ds s.did ∧ s.bc.toNat ≤ 65536
  | .zsuSecurityByte2 => s.pktLen = 0 ∧ 1 ≤ s.cfg.ds s.did ∧ s.bc.toNat ≤ 65536
  | .zsuBlocks => s.pktLen ≤ min (s.cfg.ds s.did + 1) s.cfg.maxFrame ∧ 1 ≤ s.cfg.ds s.did ∧ s.bc.toNat ≤ 65536

/-- The invariant of the machine. A state with a request pending is inside a step, so R28 to R30 do not speak of it. -/
structure Inv (s : State) : Prop where
  /-- R7, R242. -/
  config : s.cfg.WellFormed
  /-- The packet storage is in its canonical form. -/
  canonical : s.pktMem.wf
  /-- It lists no index outside its address space (R40). -/
  inRange : ∀ c ∈ s.pktMem, c.1 < s.cfg.maxFrame
  /-- R23. -/
  capacity : s.pktLen ≤ s.cfg.maxFrame
  /-- A pending request has a legal length (R46), and no fault is raised while it waits (R203). -/
  request : ∀ r, s.tx = some r → s.fault = none ∧ 1 ≤ r.bytes.length ∧ r.bytes.length ≤ s.cfg.maxFrame
  /-- R28, R29, R30. -/
  framing : s.tx = none → s.Framed

/-- Inside a step whose request the transmitter has not answered: the request on the port and on the link (R209, I8). -/
def State.waitingOn (s : State) (q : TxRequest) : State := { s with tx := some q, trace := s.trace ++ [.tx q] }

/-- The same with a byte appended before the transmit (R41, R49). -/
def State.waitingOnByte (s : State) (b : Byte) (q : TxRequest) : State :=
  { s with pktMem := s.pktMem.write s.pktLen b, pktLen := s.pktLen + 1 }.waitingOn q

/-- The same with the packet begun by a command byte that is transmitted alone, in its operation state (R124, R127). -/
def State.waitingOnCommand (s : State) (x : St) (cmd : Byte) (op : TimeoutClass) : State :=
  { s with st := x, pktMem := s.pktMem.write 0 cmd, pktLen := 1 }.waitingOn ⟨[cmd], op⟩

/-- What one step may add to the trace: nothing, a request, a response, or a request and then a response (R49, R85). -/
def StepEvents (es : List Event) : Prop :=
  es = [] ∨ (∃ q, es = [.tx q]) ∨ (∃ r, es = [.rsp r]) ∨ (∃ q r, es = [.tx q, .rsp r])

/-- The step ended with exactly one response. -/
def Answered (es : List Event) : Prop := (∃ r, es = [.rsp r]) ∨ (∃ q r, es = [.tx q, .rsp r])

/-- Two states that differ in the storage only, and there only at and above `len(pkt)` (R53). -/
def SameVisible (s s' : State) : Prop :=
  s' = { s with pktMem := s'.pktMem } ∧ ∀ a, a < s.pktLen → s'.pktMem.read a = s.pktMem.read a

/-- Two outcomes that agree but for stale bytes. -/
def SameOutcome : Result → Result → Prop
  | .next t, .next t' => SameVisible t t'
  | .fault f, .fault f' => f = f'
  | .refused r, .refused r' => r = r'
  | _, _ => False

/-- The host delivers a block frame whose last byte the decoder answers with two pulses; nothing is transmitted before. -/
def blockEvents : List Byte → List EnvEvent
  | [] => []
  | [b] => [.rx b (some 2)]
  | b :: bs => .rx b none :: blockEvents bs

/-- A full valid ZSU session (R172): preamble run, decoder id, block count, security bytes, blocks. -/
def sessionEvents (run : List Byte) (id count : Byte) (blocks : List (List Byte)) : List EnvEvent :=
  run.map (fun b => .rx b (some 2)) ++
    [.rx id (some 2), .rx count (some 1), .rx 0x55 (some 1), .rx 0xAA (some 1)] ++ blocks.flatMap blockEvents

end Sys2Proof.Machine
end

