-- ==== Sys2Proof/Certificates/Slice0/Obligations.lean ====
section
/-! DEFINITION. The statements for the provers. "A ready engine" is one with `rx_ready` high: no fault, no request pending.
A statement about a row's result names the whole next state, so it is also the row's completion. Every statement reads the
environment's actions and answers from `env` and `txAns` (log entry 5) and what left the engine from `trace` (log entry 8);
these fields are the model's. Where a statement takes in a step whose request is not answered, the next state it speaks of is
the waiting engine of log entry 7, the model's reading of I8. -/

open Sys2Proof Sys2Proof.Machine

/-! ### The response mapper and the ports -/

/-- R80: one pulse is NAK, two are ACK, every other count is no response; the codes are 0xFC and 0x1C (R12). -/
def Obligations.ResponseMapperIsTotalAndExact : Prop :=
  ∀ p k : Nat,
    (mapPulses p = .nak ↔ p = 1) ∧ (mapPulses p = .ack ↔ p = 2) ∧ (mapPulses p = .none ↔ p ≠ 1 ∧ p ≠ 2) ∧
      Response.code k .nak = 0xFC ∧ Response.code k .ack = 0x1C

/-- The code tables of the ports: the state register (R20), the timeout class (R66), the fault register (R24, R202), with the
codes no value has, and the presence bit of the response (R65); the code byte of a response is in
`ResponseMapperIsTotalAndExact`. -/
def Obligations.PortCodesAreThoseOfTheTables : Prop :=
  ([St.entry, .preamble, .zppDispatch, .zppReadCv, .zppWriteCv, .zppFlashErase, .zppFlashWrite, .zppDecoderId,
      .zppCrcOrXorQuery, .zsuDecoderId, .zsuBlockCount, .zsuSecurityByte1, .zsuSecurityByte2, .zsuBlocks].map stCode =
    [0, 1, 2, 3, 4, 5, 6, 7, 8, 9, 10, 11, 12, 13]) ∧
  (∀ x : St, stCode x ≤ 13) ∧
  ([TimeoutClass.preamble, .cvRead, .cvWrite, .flashErase, .flashWrite, .decoderIdRead, .crcXorQuery, .zsuDecoderId,
      .zsuBlockCount, .zsuSecurity1, .zsuSecurity2, .zsuBlock].map opCode = [0, 1, 2, 3, 4, 5, 6, 7, 8, 9, 10, 11]) ∧
  (∀ x : TimeoutClass, opCode x ≤ 11) ∧
  ([FaultReason.packetOverflow, .dataSizeZero, .blockCountNegative, .blockCountUnderflow].map FaultReason.code =
    [1, 2, 3, 4]) ∧
  (∀ s : State, (s.faultOut = 0 ↔ s.fault = none) ∧ ∀ r, s.fault = some r → s.faultOut = r.code) ∧
  (∀ r : Response, r.isSome = true ↔ r = .ack ∨ r = .nak)

/-- R209, D24: the port delivers a count above 255 as 255, and the response is that of the count itself. -/
def Obligations.SaturatingPulsePortKeepsTheResponse : Prop :=
  ∀ p : Nat, (p ≤ 255 → portPulses p = p) ∧ (255 < p → portPulses p = 255) ∧ mapPulses (portPulses p) = mapPulses p

/-! ### A step -/

/-- R82, R83, R87: on a ready engine a delivered byte runs the row its context selects, with the transmitter's answer of
that delivery (or none: log entries 5 and 7); a host reset runs HOST_RESET. -/
def Obligations.StepRunsTheDecodedRow : Prop :=
  ∀ (s : State) (rest : List EnvEvent), s.rxReady = true →
    (∀ (b : Byte) (answer : Option Nat) (i : Instr),
      s.env = .rx b answer :: rest → decode s.ctx (.rx b) = .row i →
        step s = exec i { s with env := rest, txAns := answer }) ∧
    (s.env = .reset :: rest → step s = exec .hostReset { s with env := rest })

/-- With nothing pending a ready engine holds every register. That the registers hold is R92's; R14 and R92 have no step
without an action, and that `step` answers the same state there is the model's choice (log entry 6, DESIGN CHOICE). -/
def Obligations.IdleEngineHoldsEveryRegister : Prop :=
  ∀ s : State, s.rxReady = true → s.env = [] → step s = .next s

/-- R203, R204: while `fault` holds a reason neither a byte nor a host reset nor the passing of time is a step. That `step`
then answers the fault `engineStopped` is the model's way to say so (log entries 9 and 27). -/
def Obligations.StoppedEngineTakesNoStep : Prop :=
  ∀ (s : State) (r : FaultReason), s.fault = some r → (∀ contents rest, s.env ≠ .por contents :: rest) →
    step s = .fault (.engineStopped r)

/-- The model's reading of I8 (log entry 7): an engine whose request is never answered takes no step. -/
def Obligations.WaitingEngineTakesNoStep : Prop :=
  ∀ (s : State) (q : TxRequest), s.fault = none → s.tx = some q → (∀ contents rest, s.env ≠ .por contents :: rest) →
    step s = .fault .transmitterSilent

/-- R240: power-on reset, in every state, stopped and waiting ones too (waiting: log entry 14). The storage holds the contents
that come up, at most `MAX_FRAME` bytes of them; that these are an input is the model's choice (log entry 13). -/
def Obligations.PowerOnResetFromEveryState : Prop :=
  ∀ (s : State) (contents : List Byte) (rest : List EnvEvent), s.env = .por contents :: rest →
    step s = .next
      { s with
        st := .entry, did := 0, bc := 0, pktLen := 0, fault := none, tx := none, env := rest,
        pktMem := Memory.writeAll [] 0 (contents.take s.cfg.maxFrame) }

/-! ### Encoding -/

/-- Words read from the rows of R70: each byte, in the state its row names, decodes to that row. -/
def Obligations.WrittenOutBytesDecodeToTheirRows : Prop :=
  ∀ cfg : Config,
    decode ⟨cfg, .zppDispatch, 0, []⟩ (.rx 0x01) = .row .zppCmdReadCv ∧
    decode ⟨cfg, .zppDispatch, 0, []⟩ (.rx 0x07) = .row .zppCmdCrcXorQuery ∧
    decode ⟨cfg, .zppDispatch, 0, []⟩ (.rx 0x08) = .row (.zppCmdUnknown 0x08) ∧
    decode ⟨cfg, .zppReadCv, 0, [0x01, 0x00]⟩ (.rx 0x08) = .row (.zppReadCvFrameEnd 0x08) ∧
    decode ⟨cfg, .zppWriteCv, 0, [0x02, 0x55, 0x00, 0x01]⟩ (.rx 0x03) = .row (.zppWriteCvEnd 0x03) ∧
    decode ⟨cfg, .zppWriteCv, 0, [0x06, 0x55, 0x00, 0x01]⟩ (.rx 0x02) = .row (.zppWriteCvByte 0x02) ∧
    decode ⟨cfg, .zppFlashErase, 0, [0x03, 0x55, 0xFF]⟩ (.rx 0xFF) = .row .zppEraseEndOk ∧
    decode ⟨cfg, .zppFlashErase, 0, [0x03, 0x55, 0xFE]⟩ (.rx 0xFF) = .row (.zppEraseEndBad 0xFF) ∧
    decode ⟨cfg, .zsuSecurityByte1, 0x90, []⟩ (.rx 0x55) = .row .zsuSec1Ok ∧
    decode ⟨cfg, .zsuSecurityByte2, 0x90, []⟩ (.rx 0x55) = .row (.zsuSec2Bad 0x55)

/-- R70: every row is what its encoding decodes to wherever the row's table columns hold. -/
def Obligations.DecodeOfEncodeIsTheRow : Prop :=
  ∀ (c : Ctx) (i : Instr), WellFormed c i = true → decode c (encode i) = .row i

/-- R70: the decoder gives a row only for its own encoding, and only where its table columns hold; so the rows of a state
exclude each other. -/
def Obligations.DecodedRowIsWellFormed : Prop :=
  ∀ (c : Ctx) (a : HostAction) (i : Instr), decode c a = .row i → encode i = a ∧ WellFormed c i = true

/-- R70, R60: within the bounds of R29 some row covers every byte in every state. -/
def Obligations.RowsCoverEveryByteWithinTheFrameBounds : Prop :=
  ∀ (s : State) (a : HostAction), s.cfg.WellFormed → s.Framed → ∃ i, decode s.ctx a = .row i

/-! ### Entry, Preamble and the hand-on -/

/-- R100: a banner byte in Entry answers None and changes no register. -/
def Obligations.BannerByteIsSkipped : Prop :=
  ∀ (s : State) (b : Byte), s.rxReady = true → s.st = .entry → b ∈ s.cfg.banner →
    exec (.entrySkip b) s = .next { s with trace := s.trace ++ [.rsp .none] }

/-- R84, R101, R103, R104: the handing-on row writes `st` and the receiving handler then runs on the same byte: whatever row
that handler selects is what the step does. -/
def Obligations.HandedOnByteRunsTheReceivingHandler : Prop :=
  ∀ (s : State) (b : Byte) (i : Instr), s.rxReady = true →
    (s.st = .entry → b ∉ s.cfg.banner → decode { s with st := .preamble }.ctx (.rx b) = .row i →
      exec (.entryFallthrough b) s = exec i { s with st := .preamble }) ∧
    (s.st = .preamble → b ≠ s.cfg.pre0 → b ≠ s.cfg.pre1 → b < 0x80 →
      decode { s with st := .zppDispatch }.ctx (.rx b) = .row i →
      exec (.preSelectZpp b) s = exec i { s with st := .zppDispatch }) ∧
    (s.st = .preamble → b ≠ s.cfg.pre0 → b ≠ s.cfg.pre1 → 0x80 ≤ b →
      exec (.preSelectZsu b) s = exec (.zsuDecoderId b) { s with st := .zsuDecoderId })

/-- R101, R103, R104: with a well-formed configuration and an answering transmitter, a byte that leaves Entry or Preamble
completes whatever its value; it ends outside the state it left, and ready again. -/
def Obligations.SelectingRowsComplete : Prop :=
  ∀ (s : State) (b : Byte) (p : Nat), s.rxReady = true → s.cfg.WellFormed → s.txAns = some p →
    (s.st = .entry → b ∉ s.cfg.banner →
      ∃ t, exec (.entryFallthrough b) s = .next t ∧ t.rxReady = true ∧ t.st ≠ .entry) ∧
    (s.st = .preamble → b ≠ s.cfg.pre0 → b ≠ s.cfg.pre1 → b < 0x80 →
      ∃ t, exec (.preSelectZpp b) s = .next t ∧ t.rxReady = true ∧ isZpp t.st = true) ∧
    (s.st = .preamble → b ≠ s.cfg.pre0 → b ≠ s.cfg.pre1 → 0x80 ≤ b →
      ∃ t, exec (.preSelectZsu b) s = .next t ∧ t.rxReady = true ∧ (t.st = .zsuDecoderId ∨ t.st = .zsuBlockCount))

/-- R102, and R101 for a byte that falls through to it: a preamble code is transmitted alone and its response is the
mapper's; from Entry the state becomes Preamble, from Preamble it stays. -/
def Obligations.PreambleCodeIsTransmittedAlone : Prop :=
  ∀ (s : State) (b : Byte) (p : Nat), s.rxReady = true → s.txAns = some p → (b = s.cfg.pre0 ∨ b = s.cfg.pre1) →
    (s.st = .preamble →
      exec (.prePreamble b) s =
        .next { s with trace := s.trace ++ [.tx ⟨[b], .preamble⟩, .rsp (mapPulses p)] }) ∧
    (s.st = .entry → b ∉ s.cfg.banner →
      exec (.entryFallthrough b) s =
        .next { s with st := .preamble, trace := s.trace ++ [.tx ⟨[b], .preamble⟩, .rsp (mapPulses p)] })

/-- R103: a byte below 0x80 that is neither a preamble code nor a ZPP command stalls in ZppDispatch, not in Preamble. -/
def Obligations.UnknownByteAfterPreambleStallsInDispatch : Prop :=
  ∀ (s : State) (b : Byte), s.rxReady = true → s.st = .preamble → b ≠ s.cfg.pre0 → b ≠ s.cfg.pre1 → b < 0x80 →
    ¬ (0x01 ≤ b ∧ b ≤ 0x07) →
      exec (.preSelectZpp b) s = .next { s with st := .zppDispatch, trace := s.trace ++ [.rsp .none] }

/-! ### ZppDispatch -/

/-- R121, R122, R123, R125, R126: a command that is collected clears the packet, enters its state with the command byte as
`pkt[0]`, and answers None. -/
def Obligations.CollectedCommandStartsItsFrame : Prop :=
  ∀ s : State, s.rxReady = true → s.st = .zppDispatch → 10 ≤ s.cfg.maxFrame →
    exec .zppCmdReadCv s = .next
      { s with st := .zppReadCv, pktMem := s.pktMem.write 0 0x01, pktLen := 1, trace := s.trace ++ [.rsp .none] } ∧
    exec .zppCmdWriteCv s = .next
      { s with st := .zppWriteCv, pktMem := s.pktMem.write 0 0x02, pktLen := 1, trace := s.trace ++ [.rsp .none] } ∧
    exec .zppCmdFlashErase s = .next
      { s with st := .zppFlashErase, pktMem := s.pktMem.write 0 0x03, pktLen := 1, trace := s.trace ++ [.rsp .none] } ∧
    exec .zppCmdFlashWrite s = .next
      { s with st := .zppFlashWrite, pktMem := s.pktMem.write 0 0x05, pktLen := 1, trace := s.trace ++ [.rsp .none] } ∧
    exec .zppCmdWriteCvExt s = .next
      { s with st := .zppWriteCv, pktMem := s.pktMem.write 0 0x06, pktLen := 1, trace := s.trace ++ [.rsp .none] }

/-- R124, R127: the commands 0x04 and 0x07 are transmitted alone in the step that selects them. -/
def Obligations.TransmittedCommandStartsItsProbes : Prop :=
  ∀ (s : State) (p : Nat), s.rxReady = true → s.st = .zppDispatch → 10 ≤ s.cfg.maxFrame → s.txAns = some p →
    exec .zppCmdDecoderId s = .next
      { s with
        st := .zppDecoderId, pktMem := s.pktMem.write 0 0x04, pktLen := 1,
        trace := s.trace ++ [.tx ⟨[0x04], .decoderIdRead⟩, .rsp (mapPulses p)] } ∧
    exec .zppCmdCrcXorQuery s = .next
      { s with
        st := .zppCrcOrXorQuery, pktMem := s.pktMem.write 0 0x07, pktLen := 1,
        trace := s.trace ++ [.tx ⟨[0x07], .crcXorQuery⟩, .rsp (mapPulses p)] }

/-- R128: any other byte in ZppDispatch answers None and changes no register. -/
def Obligations.UnknownCommandStalls : Prop :=
  ∀ (s : State) (b : Byte), s.rxReady = true → s.st = .zppDispatch → ¬ (0x01 ≤ b ∧ b ≤ 0x07) →
    exec (.zppCmdUnknown b) s = .next { s with trace := s.trace ++ [.rsp .none] }

/-! ### The ZPP operation states -/

/-- R129, R133, R135, R138: a byte that does not complete its frame is appended, and the step answers None. -/
def Obligations.IncompleteZppFrameCollectsTheByte : Prop :=
  ∀ (s : State) (b : Byte), s.rxReady = true → s.pktLen < s.cfg.maxFrame →
    (s.st = .zppReadCv → s.pktLen + 1 ≤ 2 →
      exec (.zppReadCvFrameByte b) s = .next
        { s with
          pktMem := s.pktMem.write s.pktLen b, pktLen := s.pktLen + 1, trace := s.trace ++ [.rsp .none] }) ∧
    (s.st = .zppWriteCv → s.pktLen + 1 < (if (s.pkt ++ [b])[0]? = some 0x02 then 5 else 6) →
      exec (.zppWriteCvByte b) s = .next
        { s with
          pktMem := s.pktMem.write s.pktLen b, pktLen := s.pktLen + 1, trace := s.trace ++ [.rsp .none] }) ∧
    (s.st = .zppFlashErase → s.pktLen + 1 ≤ 3 →
      exec (.zppEraseByte b) s = .next
        { s with
          pktMem := s.pktMem.write s.pktLen b, pktLen := s.pktLen + 1, trace := s.trace ++ [.rsp .none] }) ∧
    (s.st = .zppFlashWrite → s.pktLen + 1 < s.cfg.maxFrame →
      exec (.zppFlashWriteByte b) s = .next
        { s with
          pktMem := s.pktMem.write s.pktLen b, pktLen := s.pktLen + 1, trace := s.trace ++ [.rsp .none] })

/-- R130: the third byte of a read-CV frame transmits the three bytes; the packet is kept. -/
def Obligations.ReadCvFrameIsTransmittedWhole : Prop :=
  ∀ (s : State) (b : Byte) (p : Nat), s.rxReady = true → s.txAns = some p → s.pktLen < s.cfg.maxFrame →
    s.st = .zppReadCv → s.pktLen + 1 = 3 →
      exec (.zppReadCvFrameEnd b) s = .next
        { s with
          pktMem := s.pktMem.write s.pktLen b, pktLen := 3,
          trace := s.trace ++ [.tx ⟨s.pkt ++ [b], .cvRead⟩, .rsp (mapPulses p)] }

/-- R131, R140, R142: a probe byte is appended and transmitted alone; the state stays whatever the count. -/
def Obligations.ProbeIsTransmittedAlone : Prop :=
  ∀ (s : State) (b : Byte) (p : Nat), s.rxReady = true → s.txAns = some p → s.pktLen < s.cfg.maxFrame →
    (s.st = .zppReadCv → 4 ≤ s.pktLen + 1 → s.pktLen + 1 ≤ 9 →
      exec (.zppReadCvProbe b) s = .next
        { s with
          pktMem := s.pktMem.write s.pktLen b, pktLen := s.pktLen + 1,
          trace := s.trace ++ [.tx ⟨[b], .cvRead⟩, .rsp (mapPulses p)] }) ∧
    (s.st = .zppDecoderId → s.pktLen + 1 ≤ 7 →
      exec (.zppDecoderIdByte b) s = .next
        { s with
          pktMem := s.pktMem.write s.pktLen b, pktLen := s.pktLen + 1,
          trace := s.trace ++ [.tx ⟨[b], .decoderIdRead⟩, .rsp (mapPulses p)] }) ∧
    (s.st = .zppCrcOrXorQuery → s.pktLen + 1 ≤ 7 →
      exec (.zppCrcXorByte b) s = .next
        { s with
          pktMem := s.pktMem.write s.pktLen b, pktLen := s.pktLen + 1,
          trace := s.trace ++ [.tx ⟨[b], .crcXorQuery⟩, .rsp (mapPulses p)] })

/-- R132, R141, R143: the last probe is transmitted alone and the engine returns to ZppDispatch with an empty packet,
whatever the count. -/
def Obligations.LastProbeReturnsToDispatch : Prop :=
  ∀ (s : State) (b : Byte) (p : Nat), s.rxReady = true → s.txAns = some p → s.pktLen < s.cfg.maxFrame →
    (s.st = .zppReadCv → s.pktLen + 1 = 10 →
      exec (.zppReadCvLast b) s = .next
        { s with
          st := .zppDispatch, pktMem := s.pktMem.write s.pktLen b, pktLen := 0,
          trace := s.trace ++ [.tx ⟨[b], .cvRead⟩, .rsp (mapPulses p)] }) ∧
    (s.st = .zppDecoderId → s.pktLen + 1 = 8 →
      exec (.zppDecoderIdLast b) s = .next
        { s with
          st := .zppDispatch, pktMem := s.pktMem.write s.pktLen b, pktLen := 0,
          trace := s.trace ++ [.tx ⟨[b], .decoderIdRead⟩, .rsp (mapPulses p)] }) ∧
    (s.st = .zppCrcOrXorQuery → s.pktLen + 1 = 8 →
      exec (.zppCrcXorLast b) s = .next
        { s with
          st := .zppDispatch, pktMem := s.pktMem.write s.pktLen b, pktLen := 0,
          trace := s.trace ++ [.tx ⟨[b], .crcXorQuery⟩, .rsp (mapPulses p)] })

/-- R134, R136, R139: the byte that completes a write-CV, erase or flash-write frame transmits the whole frame in one
request, and the engine returns to ZppDispatch with an empty packet, whatever the count. -/
def Obligations.CompletedZppFrameIsTransmittedWhole : Prop :=
  ∀ (s : State) (b : Byte) (p : Nat), s.rxReady = true → s.txAns = some p → s.pktLen < s.cfg.maxFrame →
    (s.st = .zppWriteCv → s.pktLen + 1 = (if (s.pkt ++ [b])[0]? = some 0x02 then 5 else 6) →
      exec (.zppWriteCvEnd b) s = .next
        { s with
          st := .zppDispatch, pktMem := s.pktMem.write s.pktLen b, pktLen := 0,
          trace := s.trace ++ [.tx ⟨s.pkt ++ [b], .cvWrite⟩, .rsp (mapPulses p)] }) ∧
    (s.st = .zppFlashErase → s.pktLen + 1 = 4 → s.pkt[1]? = some 0x55 → s.pkt[2]? = some 0xFF →
      exec .zppEraseEndOk s = .next
        { s with
          st := .zppDispatch, pktMem := s.pktMem.write s.pktLen 0xFF, pktLen := 0,
          trace := s.trace ++ [.tx ⟨s.pkt ++ [0xFF], .flashErase⟩, .rsp (mapPulses p)] }) ∧
    (s.st = .zppFlashWrite → s.pktLen + 1 = s.cfg.maxFrame →
      exec (.zppFlashWriteEnd b) s = .next
        { s with
          st := .zppDispatch, pktMem := s.pktMem.write s.pktLen b, pktLen := 0,
          trace := s.trace ++ [.tx ⟨s.pkt ++ [b], .flashWrite⟩, .rsp (mapPulses p)] })

/-- R137: a wrong security byte abandons the erase frame at its fourth byte: nothing is transmitted, the answer is None, and
the engine returns to ZppDispatch. -/
def Obligations.WrongEraseSecurityAbandonsTheFrame : Prop :=
  ∀ (s : State) (b : Byte), s.rxReady = true → s.pktLen < s.cfg.maxFrame → s.st = .zppFlashErase → s.pktLen + 1 = 4 →
    ¬ (s.pkt[1]? = some 0x55 ∧ s.pkt[2]? = some 0xFF ∧ b = 0xFF) →
      exec (.zppEraseEndBad b) s = .next
        { s with
          st := .zppDispatch, pktMem := s.pktMem.write s.pktLen b, pktLen := 0, trace := s.trace ++ [.rsp .none] }

/-! ### The ZSU branch -/

/-- R162: two pulses store the identifier and advance; any other count is answered by the mapper and changes no register. -/
def Obligations.DecoderIdIsConfirmedByTwoPulses : Prop :=
  ∀ (s : State) (b : Byte) (p : Nat), s.rxReady = true → s.txAns = some p → s.st = .zsuDecoderId →
    exec (.zsuDecoderId b) s = .next
      (if p = 2 then
        { s with
          did := b, st := .zsuBlockCount, trace := s.trace ++ [.tx ⟨[b], .zsuDecoderId⟩, .rsp .ack] }
      else { s with trace := s.trace ++ [.tx ⟨[b], .zsuDecoderId⟩, .rsp (mapPulses p)] })

/-- R104 with R162: the byte that selects ZSU is the first identifier candidate; unconfirmed, the engine stays in
ZsuDecoderId, not in Preamble. -/
def Obligations.SelectingByteIsTheFirstDecoderId : Prop :=
  ∀ (s : State) (b : Byte) (p : Nat), s.rxReady = true → s.txAns = some p → s.st = .preamble →
    b ≠ s.cfg.pre0 → b ≠ s.cfg.pre1 → 0x80 ≤ b →
      exec (.preSelectZsu b) s = .next
        (if p = 2 then
          { s with
            did := b, st := .zsuBlockCount, trace := s.trace ++ [.tx ⟨[b], .zsuDecoderId⟩, .rsp .ack] }
        else
          { s with
            st := .zsuDecoderId, trace := s.trace ++ [.tx ⟨[b], .zsuDecoderId⟩, .rsp (mapPulses p)] })

/-- R161: the block count in exact arithmetic: the two faults, in their order, the truncating quotient, the doubling after
it for 32-byte blocks, and the bounds 65536 and, for 32-byte blocks, 4096. -/
def Obligations.BlockCountIsTheExactFormula : Prop :=
  ∀ (cfg : Config) (b id : Byte),
    (cfg.ds id = 0 → blockCount cfg b id = .error .dataSizeZero) ∧
    (cfg.ds id ≠ 0 → (b.toNat + 1) * 256 < cfg.bl id → blockCount cfg b id = .error .blockCountNegative) ∧
    (cfg.ds id ≠ 0 → cfg.ds id ≠ 32 → cfg.bl id ≤ (b.toNat + 1) * 256 →
      blockCount cfg b id = .ok (((b.toNat + 1) * 256 - cfg.bl id) / cfg.ds id)) ∧
    (cfg.ds id = 32 → cfg.bl id ≤ (b.toNat + 1) * 256 →
      blockCount cfg b id = .ok (((b.toNat + 1) * 256 - cfg.bl id) / 32 * 2)) ∧
    (∀ q, blockCount cfg b id = .ok q → q ≤ 65536 ∧ (cfg.ds id = 32 → q ≤ 4096))

/-- R163: one pulse stores the block count and advances, and the host sees NAK, or raises the fault of the computation after
the transmit, with `bc` and `st` not written; any other count is answered by the mapper and changes no register. -/
def Obligations.BlockCountIsConfirmedByOnePulse : Prop :=
  ∀ (s : State) (b : Byte) (p q : Nat), s.rxReady = true → s.txAns = some p → s.st = .zsuBlockCount →
    (p = 1 → blockCount s.cfg b s.did = .ok q →
      exec (.zsuBlockCount b) s = .next
        { s with
          bc := BitVec.ofNat 32 q, st := .zsuSecurityByte1,
          trace := s.trace ++ [.tx ⟨[b], .zsuBlockCount⟩, .rsp .nak] }) ∧
    (∀ r, p = 1 → blockCount s.cfg b s.did = .error r →
      exec (.zsuBlockCount b) s = .next
        { s with fault := some r, trace := s.trace ++ [.tx ⟨[b], .zsuBlockCount⟩] }) ∧
    (p ≠ 1 →
      exec (.zsuBlockCount b) s = .next
        { s with trace := s.trace ++ [.tx ⟨[b], .zsuBlockCount⟩, .rsp (mapPulses p)] })

/-- R163, R202, R203: a confirmed block count that cannot be computed stops the engine after the transmit, with no response;
`bc` and `st` are not written. -/
def Obligations.UncomputableBlockCountStopsTheEngine : Prop :=
  ∀ (s : State) (b : Byte), s.rxReady = true → s.txAns = some 1 → s.st = .zsuBlockCount →
    (s.cfg.ds s.did = 0 →
      exec (.zsuBlockCount b) s = .next
        { s with fault := some .dataSizeZero, trace := s.trace ++ [.tx ⟨[b], .zsuBlockCount⟩] }) ∧
    (s.cfg.ds s.did ≠ 0 → (b.toNat + 1) * 256 < s.cfg.bl s.did →
      exec (.zsuBlockCount b) s = .next
        { s with fault := some .blockCountNegative, trace := s.trace ++ [.tx ⟨[b], .zsuBlockCount⟩] })

/-- R164, R166: the required literal is transmitted; one pulse advances, with NAK to the host; any other count leaves the
state. -/
def Obligations.SecurityByteIsConfirmedByOnePulse : Prop :=
  ∀ (s : State) (p : Nat), s.rxReady = true → s.txAns = some p →
    (s.st = .zsuSecurityByte1 →
      exec .zsuSec1Ok s = .next
        (if p = 1 then
          { s with
            st := .zsuSecurityByte2, trace := s.trace ++ [.tx ⟨[0x55], .zsuSecurity1⟩, .rsp .nak] }
        else { s with trace := s.trace ++ [.tx ⟨[0x55], .zsuSecurity1⟩, .rsp (mapPulses p)] })) ∧
    (s.st = .zsuSecurityByte2 →
      exec .zsuSec2Ok s = .next
        (if p = 1 then
          { s with st := .zsuBlocks, trace := s.trace ++ [.tx ⟨[0xAA], .zsuSecurity2⟩, .rsp .nak] }
        else { s with trace := s.trace ++ [.tx ⟨[0xAA], .zsuSecurity2⟩, .rsp (mapPulses p)] }))

/-- R165, R167: a wrong security byte resets the session without a transmit and answers None. -/
def Obligations.WrongSecurityByteResetsTheSession : Prop :=
  ∀ (s : State) (b : Byte), s.rxReady = true →
    (s.st = .zsuSecurityByte1 → b ≠ 0x55 →
      exec (.zsuSec1Bad b) s = .next
        { s with st := .entry, did := 0, bc := 0, pktLen := 0, trace := s.trace ++ [.rsp .none] }) ∧
    (s.st = .zsuSecurityByte2 → b ≠ 0xAA →
      exec (.zsuSec2Bad b) s = .next
        { s with st := .entry, did := 0, bc := 0, pktLen := 0, trace := s.trace ++ [.rsp .none] })

/-- R168: a block byte short of `DS(did) + 2` is appended and answers None; where the buffer is full already, it raises
PacketOverflow. -/
def Obligations.IncompleteBlockCollectsTheByte : Prop :=
  ∀ (s : State) (b : Byte), s.rxReady = true → s.st = .zsuBlocks → s.pktLen + 1 < s.cfg.ds s.did + 2 →
    (s.pktLen < s.cfg.maxFrame →
      exec (.zsuBlockByte b) s = .next
        { s with
          pktMem := s.pktMem.write s.pktLen b, pktLen := s.pktLen + 1, trace := s.trace ++ [.rsp .none] }) ∧
    (s.pktLen = s.cfg.maxFrame → exec (.zsuBlockByte b) s = .next { s with fault := some .packetOverflow })

/-- R41, R203: an append at capacity raises PacketOverflow: nothing is written but the fault register, nothing is
transmitted, no response is given. It holds for both rows of ZsuBlocks (log entry 18). -/
def Obligations.AppendAtCapacityStopsTheEngine : Prop :=
  ∀ (s : State) (b : Byte), s.rxReady = true → s.st = .zsuBlocks → s.pktLen = s.cfg.maxFrame →
    (s.pktLen + 1 < s.cfg.ds s.did + 2 →
      exec (.zsuBlockByte b) s = .next { s with fault := some .packetOverflow }) ∧
    (s.pktLen + 1 = s.cfg.ds s.did + 2 →
      exec (.zsuBlockEnd b) s = .next { s with fault := some .packetOverflow })

/-- R169: the byte that completes a block transmits the frame as delivered, whatever its checksum, and clears the packet.
Two pulses count `bc` down and answer ACK, ending the session where it reaches zero; where it was zero already they stop the
engine with no response. Any other count leaves `bc` and `st`, for the host to resend. -/
def Obligations.CompletedBlockFollowsThePulseCount : Prop :=
  ∀ (s : State) (b : Byte) (p : Nat), s.rxReady = true → s.txAns = some p → s.st = .zsuBlocks →
    s.pktLen < s.cfg.maxFrame → s.pktLen + 1 = s.cfg.ds s.did + 2 →
      exec (.zsuBlockEnd b) s = .next
        (if p ≠ 2 then
          { s with
            pktMem := s.pktMem.write s.pktLen b, pktLen := 0,
            trace := s.trace ++ [.tx ⟨s.pkt ++ [b], .zsuBlock⟩, .rsp (mapPulses p)] }
        else if s.bc = 0 then
          { s with
            fault := some .blockCountUnderflow, pktMem := s.pktMem.write s.pktLen b, pktLen := 0,
            trace := s.trace ++ [.tx ⟨s.pkt ++ [b], .zsuBlock⟩] }
        else if s.bc = 1 then
          { s with
            st := .entry, did := 0, bc := 0, pktMem := s.pktMem.write s.pktLen b, pktLen := 0,
            trace := s.trace ++ [.tx ⟨s.pkt ++ [b], .zsuBlock⟩, .rsp .ack] }
        else
          { s with
            bc := s.bc - 1, pktMem := s.pktMem.write s.pktLen b, pktLen := 0,
            trace := s.trace ++ [.tx ⟨s.pkt ++ [b], .zsuBlock⟩, .rsp .ack] })

/-! ### Host reset -/

/-- R87: the host reset clears the packet, the state and the session context in every state, and answers nothing. -/
def Obligations.HostResetClearsTheSession : Prop :=
  ∀ s : State, s.rxReady = true →
    exec .hostReset s = .next { s with st := .entry, did := 0, bc := 0, pktLen := 0 }

/-- R88: two resets are one, and leave Entry with the context zeroed. -/
def Obligations.HostResetIsIdempotent : Prop :=
  ∀ s : State, s.rxReady = true →
    ∃ t, exec .hostReset s = .next t ∧ exec .hostReset t = .next t ∧
      t.st = .entry ∧ t.did = 0 ∧ t.bc = 0 ∧ t.pktLen = 0

/-! ### A transmitter that never answers -/

/-- The model's reading of I8 and R209 (log entry 7): without an answer a row that transmits leaves the request on the port,
with what it did before the transmit done and nothing after it. One clause for each row whose own handler transmits. -/
def Obligations.UnansweredRequestStaysOnThePort : Prop :=
  ∀ (s : State) (b : Byte), s.rxReady = true → s.txAns = none →
    (s.st = .preamble → (b = s.cfg.pre0 ∨ b = s.cfg.pre1) →
      exec (.prePreamble b) s = .next (s.waitingOn ⟨[b], .preamble⟩)) ∧
    (s.st = .zppReadCv → s.pktLen < s.cfg.maxFrame → s.pktLen + 1 = 3 →
      exec (.zppReadCvFrameEnd b) s = .next (s.waitingOnByte b ⟨s.pkt ++ [b], .cvRead⟩)) ∧
    (s.st = .zppReadCv → s.pktLen < s.cfg.maxFrame → 4 ≤ s.pktLen + 1 → s.pktLen + 1 ≤ 9 →
      exec (.zppReadCvProbe b) s = .next (s.waitingOnByte b ⟨[b], .cvRead⟩)) ∧
    (s.st = .zppReadCv → s.pktLen < s.cfg.maxFrame → s.pktLen + 1 = 10 →
      exec (.zppReadCvLast b) s = .next (s.waitingOnByte b ⟨[b], .cvRead⟩)) ∧
    (s.st = .zppWriteCv → s.pktLen < s.cfg.maxFrame →
      s.pktLen + 1 = (if (s.pkt ++ [b])[0]? = some 0x02 then 5 else 6) →
      exec (.zppWriteCvEnd b) s = .next (s.waitingOnByte b ⟨s.pkt ++ [b], .cvWrite⟩)) ∧
    (s.st = .zppFlashErase → s.pktLen < s.cfg.maxFrame → s.pktLen + 1 = 4 → s.pkt[1]? = some 0x55 → s.pkt[2]? = some 0xFF →
      exec .zppEraseEndOk s = .next (s.waitingOnByte 0xFF ⟨s.pkt ++ [0xFF], .flashErase⟩)) ∧
    (s.st = .zppFlashWrite → s.pktLen < s.cfg.maxFrame → s.pktLen + 1 = s.cfg.maxFrame →
      exec (.zppFlashWriteEnd b) s = .next (s.waitingOnByte b ⟨s.pkt ++ [b], .flashWrite⟩)) ∧
    (s.st = .zppDecoderId → s.pktLen < s.cfg.maxFrame → s.pktLen + 1 ≤ 7 →
      exec (.zppDecoderIdByte b) s = .next (s.waitingOnByte b ⟨[b], .decoderIdRead⟩)) ∧
    (s.st = .zppDecoderId → s.pktLen < s.cfg.maxFrame → s.pktLen + 1 = 8 →
      exec (.zppDecoderIdLast b) s = .next (s.waitingOnByte b ⟨[b], .decoderIdRead⟩)) ∧
    (s.st = .zppCrcOrXorQuery → s.pktLen < s.cfg.maxFrame → s.pktLen + 1 ≤ 7 →
      exec (.zppCrcXorByte b) s = .next (s.waitingOnByte b ⟨[b], .crcXorQuery⟩)) ∧
    (s.st = .zppCrcOrXorQuery → s.pktLen < s.cfg.maxFrame → s.pktLen + 1 = 8 →
      exec (.zppCrcXorLast b) s = .next (s.waitingOnByte b ⟨[b], .crcXorQuery⟩)) ∧
    (s.st = .zsuDecoderId → exec (.zsuDecoderId b) s = .next (s.waitingOn ⟨[b], .zsuDecoderId⟩)) ∧
    (s.st = .zsuBlockCount → exec (.zsuBlockCount b) s = .next (s.waitingOn ⟨[b], .zsuBlockCount⟩)) ∧
    (s.st = .zsuSecurityByte1 → exec .zsuSec1Ok s = .next (s.waitingOn ⟨[0x55], .zsuSecurity1⟩)) ∧
    (s.st = .zsuSecurityByte2 → exec .zsuSec2Ok s = .next (s.waitingOn ⟨[0xAA], .zsuSecurity2⟩)) ∧
    (s.st = .zsuBlocks → s.pktLen < s.cfg.maxFrame → s.pktLen + 1 = s.cfg.ds s.did + 2 →
      exec (.zsuBlockEnd b) s = .next (s.waitingOnByte b ⟨s.pkt ++ [b], .zsuBlock⟩))

/-- The same (log entry 7) for the rows that hand their byte on to a row that transmits: what is done before the transmit is
the hand-on too, with `st` written (R84) and, for the commands 0x04 and 0x07, the packet begun (R124, R127). -/
def Obligations.UnansweredHandedOnRequestStaysOnThePort : Prop :=
  ∀ (s : State) (b : Byte), s.rxReady = true → s.txAns = none → 1 ≤ s.cfg.maxFrame →
    (s.st = .zppDispatch →
      exec .zppCmdDecoderId s = .next (s.waitingOnCommand .zppDecoderId 0x04 .decoderIdRead) ∧
      exec .zppCmdCrcXorQuery s = .next (s.waitingOnCommand .zppCrcOrXorQuery 0x07 .crcXorQuery)) ∧
    (s.st = .preamble → b ≠ s.cfg.pre0 → b ≠ s.cfg.pre1 →
      (b = 0x04 → exec (.preSelectZpp b) s = .next (s.waitingOnCommand .zppDecoderId b .decoderIdRead)) ∧
      (b = 0x07 → exec (.preSelectZpp b) s = .next (s.waitingOnCommand .zppCrcOrXorQuery b .crcXorQuery)) ∧
      (0x80 ≤ b →
        exec (.preSelectZsu b) s = .next ({ s with st := .zsuDecoderId }.waitingOn ⟨[b], .zsuDecoderId⟩))) ∧
    (s.st = .entry → b ∉ s.cfg.banner →
      (b = s.cfg.pre0 ∨ b = s.cfg.pre1 →
        exec (.entryFallthrough b) s = .next ({ s with st := .preamble }.waitingOn ⟨[b], .preamble⟩)) ∧
      (b ≠ s.cfg.pre0 → b ≠ s.cfg.pre1 →
        (b = 0x04 → exec (.entryFallthrough b) s = .next (s.waitingOnCommand .zppDecoderId b .decoderIdRead)) ∧
        (b = 0x07 → exec (.entryFallthrough b) s = .next (s.waitingOnCommand .zppCrcOrXorQuery b .crcXorQuery)) ∧
        (0x80 ≤ b →
          exec (.entryFallthrough b) s = .next ({ s with st := .zsuDecoderId }.waitingOn ⟨[b], .zsuDecoderId⟩))))

/-! ### Frames -/

/-- What a row that appends nothing leaves alone: every byte of the storage; `did` but for ZSU_DECODER_ID and the resets;
`bc` but for ZSU_BLOCK_COUNT and the resets; `fault` but for ZSU_BLOCK_COUNT; `st` for the three rows that only answer;
`len(pkt)` but for the resets; the configuration and the environment always. An unanswered row (log entry 7) is included. -/
def Obligations.FrameOfRowsThatStoreNothing : Prop :=
  ∀ (i : Instr) (s t : State) (b : Byte), exec i s = .next t →
    (i = .entrySkip b ∨ i = .prePreamble b ∨ i = .zppCmdUnknown b →
      t.st = s.st ∧ t.did = s.did ∧ t.bc = s.bc ∧ t.fault = s.fault ∧ t.pktLen = s.pktLen ∧ t.cfg = s.cfg ∧
        t.txAns = s.txAns ∧ t.env = s.env ∧ ∀ a, t.pktMem.read a = s.pktMem.read a) ∧
    (i = .zsuDecoderId b ∨ i = .zsuSec1Ok ∨ i = .zsuSec2Ok →
      (i ≠ .zsuDecoderId b → t.did = s.did) ∧ t.bc = s.bc ∧ t.fault = s.fault ∧ t.pktLen = s.pktLen ∧ t.cfg = s.cfg ∧
        t.txAns = s.txAns ∧ t.env = s.env ∧ ∀ a, t.pktMem.read a = s.pktMem.read a) ∧
    (i = .zsuBlockCount b →
      t.did = s.did ∧ t.pktLen = s.pktLen ∧ t.cfg = s.cfg ∧ t.txAns = s.txAns ∧ t.env = s.env ∧
        ∀ a, t.pktMem.read a = s.pktMem.read a) ∧
    (i = .zsuSec1Bad b ∨ i = .zsuSec2Bad b ∨ i = .hostReset →
      t.fault = s.fault ∧ t.tx = s.tx ∧ t.cfg = s.cfg ∧ t.txAns = s.txAns ∧ t.env = s.env ∧
        ∀ a, t.pktMem.read a = s.pktMem.read a)

/-- What a row that appends leaves alone: every byte of the storage but the one at `len(pkt)`; `did` and `bc` but for
ZSU_BLOCK_END; `st` for every row but the ones that complete an operation; `fault` but for an overflow and ZSU_BLOCK_END;
the configuration and the environment always. An unanswered row (log entry 7) is included. -/
def Obligations.FrameOfRowsThatAppend : Prop :=
  ∀ (i : Instr) (s t : State) (b : Byte), exec i s = .next t →
    (i = .zppReadCvFrameByte b ∨ i = .zppReadCvFrameEnd b ∨ i = .zppReadCvProbe b ∨ i = .zppWriteCvByte b ∨
        i = .zppEraseByte b ∨ i = .zppFlashWriteByte b ∨ i = .zppDecoderIdByte b ∨ i = .zppCrcXorByte b ∨
        i = .zsuBlockByte b →
      t.st = s.st ∧ t.did = s.did ∧ t.bc = s.bc ∧ (t.fault = s.fault ∨ s.cfg.maxFrame ≤ s.pktLen) ∧ t.cfg = s.cfg ∧
        t.txAns = s.txAns ∧ t.env = s.env ∧ ∀ a, a ≠ s.pktLen → t.pktMem.read a = s.pktMem.read a) ∧
    (i = .zppReadCvLast b ∨ i = .zppWriteCvEnd b ∨ i = .zppEraseEndOk ∨ i = .zppEraseEndBad b ∨
        i = .zppFlashWriteEnd b ∨ i = .zppDecoderIdLast b ∨ i = .zppCrcXorLast b →
      t.did = s.did ∧ t.bc = s.bc ∧ (t.fault = s.fault ∨ s.cfg.maxFrame ≤ s.pktLen) ∧ t.cfg = s.cfg ∧
        t.txAns = s.txAns ∧ t.env = s.env ∧ ∀ a, a ≠ s.pktLen → t.pktMem.read a = s.pktMem.read a) ∧
    (i = .zsuBlockEnd b →
      t.cfg = s.cfg ∧ t.txAns = s.txAns ∧ t.env = s.env ∧
        ∀ a, a ≠ s.pktLen → t.pktMem.read a = s.pktMem.read a)

/-- What a row that hands its byte on leaves alone: every byte of the storage but the one at index 0 (the packet is cleared
before its command byte is appended), and for ZSU every byte; `bc` always; `did` but for a confirmed identifier; the
configuration and the environment always. With room for one byte no such row faults. An unanswered row (log entry 7) is
included. -/
def Obligations.FrameOfRowsThatHandOn : Prop :=
  ∀ (i : Instr) (s t : State) (b : Byte), exec i s = .next t →
    (i = .zppCmdReadCv ∨ i = .zppCmdWriteCv ∨ i = .zppCmdFlashErase ∨ i = .zppCmdDecoderId ∨ i = .zppCmdFlashWrite ∨
        i = .zppCmdWriteCvExt ∨ i = .zppCmdCrcXorQuery ∨ i = .preSelectZpp b →
      t.did = s.did ∧ t.bc = s.bc ∧ (t.fault = s.fault ∨ s.cfg.maxFrame = 0) ∧ t.cfg = s.cfg ∧ t.txAns = s.txAns ∧
        t.env = s.env ∧ ∀ a, a ≠ 0 → t.pktMem.read a = s.pktMem.read a) ∧
    (i = .preSelectZsu b →
      t.bc = s.bc ∧ t.fault = s.fault ∧ t.pktLen = s.pktLen ∧ t.cfg = s.cfg ∧ t.txAns = s.txAns ∧ t.env = s.env ∧
        ∀ a, t.pktMem.read a = s.pktMem.read a) ∧
    (i = .entryFallthrough b →
      t.bc = s.bc ∧ (t.fault = s.fault ∨ s.cfg.maxFrame = 0) ∧ t.cfg = s.cfg ∧ t.txAns = s.txAns ∧ t.env = s.env ∧
        ∀ a, a ≠ 0 → t.pktMem.read a = s.pktMem.read a)

/-! ### Invariants and whole-machine rules -/

/-- R28, R29, R30 and the canonical form of the storage: every step keeps the invariant. R28 to R30 are asked of a state with
no request pending; of the waiting engine (log entry 7, the model's reading) only the rest of `Inv` is. -/
def Obligations.EveryStepKeepsTheInvariant : Prop :=
  ∀ s t : State, Inv s → step s = .next t → Inv t

/-- R32: the invariant holds after power-on with any well-formed configuration and any storage contents, and at reset. -/
def Obligations.PowerOnMeetsTheInvariant : Prop :=
  (∀ (s : State) (contents : List Byte), s.cfg.WellFormed → Inv (s.powerOn contents)) ∧ Inv State.reset

/-- R60, R207: with the invariant, a ready engine takes every byte in every state and every host reset: `step` answers a next
state. With an answer, or where the row transmits nothing, that is the state in which the step ends (R86, R203, R216). Where
a row transmits and `answer` is none, the hardware's step never ends (I8, R216), and the next state is the waiting engine:
the model's reading (log entry 7, DEDUCED). -/
def Obligations.EveryHostActionIsTaken : Prop :=
  ∀ (s : State) (rest : List EnvEvent), Inv s → s.rxReady = true →
    (∀ b answer, s.env = .rx b answer :: rest → ∃ t, step s = .next t ∧ t.env = rest) ∧
    (s.env = .reset :: rest → ∃ t, step s = .next t ∧ t.env = rest)

/-- R202, R205: the only causes of a fault. -/
def Obligations.FaultsHaveOnlyTheirListedCauses : Prop :=
  ∀ (s t : State) (r : FaultReason), Inv s → s.fault = none → step s = .next t → t.fault = some r →
    (r = .packetOverflow → s.st = .zsuBlocks ∧ s.pktLen = s.cfg.maxFrame ∧ s.pktLen + 1 ≤ s.cfg.ds s.did + 2 ∧
      ∃ b answer rest, s.env = .rx b answer :: rest) ∧
    (r = .dataSizeZero → s.st = .zsuBlockCount ∧ s.cfg.ds s.did = 0 ∧ ∃ b rest, s.env = .rx b (some 1) :: rest) ∧
    (r = .blockCountNegative → s.st = .zsuBlockCount ∧ s.cfg.ds s.did ≠ 0 ∧
      ∃ b rest, s.env = .rx b (some 1) :: rest ∧ (b.toNat + 1) * 256 < s.cfg.bl s.did) ∧
    (r = .blockCountUnderflow → s.st = .zsuBlocks ∧ s.bc = 0 ∧ s.pktLen + 1 = s.cfg.ds s.did + 2 ∧
      ∃ b rest, s.env = .rx b (some 2) :: rest)

/-- R144: in the ZPP branch a byte leaves the engine in a ZPP state, an unanswered one too (log entry 7), and a host reset
returns it to Entry. -/
def Obligations.ZppBranchIsLeftOnlyByReset : Prop :=
  ∀ (s t : State) (rest : List EnvEvent), isZpp s.st = true → step s = .next t →
    (∀ b answer, s.env = .rx b answer :: rest → isZpp t.st = true) ∧ (s.env = .reset :: rest → t.st = .entry)

/-- R145: no ZPP step raises a fault when `MAX_FRAME >= 10`. -/
def Obligations.ZppStepsRaiseNoFault : Prop :=
  ∀ s t : State, Inv s → s.fault = none → isZpp s.st = true → step s = .next t → t.fault = none

/-- R160: a ZSU step stays, advances to the next state of the sequence on the count its rule names, or returns to Entry. With
`answer = none` a row that transmits stays, waiting: the model's reading (log entry 7). -/
def Obligations.ZsuStatesAdvanceInOrder : Prop :=
  ∀ (s t : State) (b : Byte) (answer : Option Nat) (rest : List EnvEvent), s.env = .rx b answer :: rest →
    step s = .next t →
      (s.st = .zsuDecoderId → t.st = (if answer = some 2 then .zsuBlockCount else .zsuDecoderId)) ∧
      (s.st = .zsuBlockCount → t.fault = none → t.st = (if answer = some 1 then .zsuSecurityByte1 else .zsuBlockCount)) ∧
      (s.st = .zsuSecurityByte1 →
        t.st = (if b ≠ 0x55 then .entry else if answer = some 1 then .zsuSecurityByte2 else .zsuSecurityByte1)) ∧
      (s.st = .zsuSecurityByte2 →
        t.st = (if b ≠ 0xAA then .entry else if answer = some 1 then .zsuBlocks else .zsuSecurityByte2)) ∧
      (s.st = .zsuBlocks → t.st = .zsuBlocks ∨ (t.st = .entry ∧ answer = some 2))

/-- R21: `did` is written only by a decoder id confirmed with two pulses, of a byte that ZsuDecoderId is handed or that is
handed on to it in the step, and by a reset, which zeroes `bc` and the packet too. -/
def Obligations.DecoderIdHasOnlyItsTwoWriters : Prop :=
  ∀ s t : State, step s = .next t →
    t.did = s.did ∨ (t.st = .entry ∧ t.did = 0 ∧ t.bc = 0 ∧ t.pktLen = 0) ∨
      ∃ b rest, s.env = .rx b (some 2) :: rest ∧ (s.st = .entry ∨ s.st = .preamble ∨ s.st = .zsuDecoderId) ∧
        t.did = b ∧ t.st = .zsuBlockCount

/-- R22: `bc` is written only by a confirmed block count, an accepted block and a reset, which zeroes `did` and the packet
too. -/
def Obligations.BlockCountHasOnlyItsThreeWriters : Prop :=
  ∀ s t : State, step s = .next t →
    t.bc = s.bc ∨ (t.st = .entry ∧ t.bc = 0 ∧ t.did = 0 ∧ t.pktLen = 0) ∨
      (∃ b rest q, s.env = .rx b (some 1) :: rest ∧ s.st = .zsuBlockCount ∧ blockCount s.cfg b s.did = .ok q ∧
        t.bc = BitVec.ofNat 32 q ∧ t.st = .zsuSecurityByte1) ∨
      (∃ b rest, s.env = .rx b (some 2) :: rest ∧ s.st = .zsuBlocks ∧ s.bc ≠ 0 ∧ t.bc = s.bc - 1)

/-- R246: no step writes the configuration. That it stands in the state is the model's choice (log entry 1). -/
def Obligations.NoStepWritesTheConfiguration : Prop :=
  ∀ s t : State, step s = .next t → t.cfg = s.cfg

/-- R49, R85, R86, R203: a step adds at most one request and at most one response to the trace, the request first; a byte
step gives its response exactly when it leaves the engine ready, that is, neither stopped by a fault (R203) nor waiting (the
model's reading, log entry 7). -/
def Obligations.StepTransmitsAndAnswersAtMostOnce : Prop :=
  ∀ s t : State, step s = .next t →
    ∃ es, t.trace = s.trace ++ es ∧ StepEvents es ∧
      (∀ b answer rest, s.env = .rx b answer :: rest → (t.rxReady = true ↔ Answered es))

/-- R46: a transmit request carries one byte at least and `MAX_FRAME` at most. -/
def Obligations.EveryRequestHasALegalLength : Prop :=
  ∀ (s t : State) (q : TxRequest), Inv s → step s = .next t → .tx q ∈ t.trace →
    .tx q ∈ s.trace ∨ (1 ≤ q.bytes.length ∧ q.bytes.length ≤ s.cfg.maxFrame)

/-- R120: in the ZPP branch what a step does to the state, the packet and the session context does not depend on the pulse
count. -/
def Obligations.ZppStepsIgnoreThePulseCount : Prop :=
  ∀ (s t t' : State) (b : Byte) (p p' : Nat) (rest : List EnvEvent), isZpp s.st = true →
    step { s with env := .rx b (some p) :: rest } = .next t →
    step { s with env := .rx b (some p') :: rest } = .next t' →
      t.st = t'.st ∧ t.pktLen = t'.pktLen ∧ t.pktMem = t'.pktMem ∧ t.did = t'.did ∧ t.bc = t'.bc ∧ t.fault = t'.fault

/-- R53: the bytes at and above `len(pkt)` change no outcome: two states that differ there only step to outcomes that
differ there only. -/
def Obligations.StaleBytesAreNeverObserved : Prop :=
  ∀ s s' : State, SameVisible s s' → SameOutcome (step s) (step s')

/-- R172: a full valid ZSU session with as many blocks as its block-count byte gives, at least one, each of a length the
buffer holds, ends in Entry with `did = 0`, `bc = 0` and an empty packet; after each smaller number of them it is still in
ZsuBlocks, with `bc` counting those to come. -/
def Obligations.FullZsuSessionEndsInEntry : Prop :=
  ∀ (s : State) (run : List Byte) (id count : Byte) (blocks : List (List Byte)),
    Inv s → s.rxReady = true → (s.st = .entry ∨ s.st = .preamble) →
    (∀ b ∈ run, b = s.cfg.pre0 ∨ b = s.cfg.pre1) → 0x80 ≤ id → id ≠ s.cfg.pre0 → id ≠ s.cfg.pre1 →
    blockCount s.cfg count id = .ok blocks.length → 1 ≤ blocks.length →
    (∀ f ∈ blocks, f.length = s.cfg.ds id + 2) → s.cfg.ds id + 2 ≤ s.cfg.maxFrame →
    s.env = sessionEvents run id count blocks →
      (∀ k < blocks.length, ∃ u, Sys2Proof.core.run (sessionEvents run id count (blocks.take k)).length s = .next u ∧
        u.st = .zsuBlocks ∧ u.did = id ∧ u.bc = BitVec.ofNat 32 (blocks.length - k) ∧ u.pktLen = 0 ∧ u.fault = none) ∧
      ∃ t, Sys2Proof.core.run (sessionEvents run id count blocks).length s = .next t ∧
        t.st = .entry ∧ t.did = 0 ∧ t.bc = 0 ∧ t.pktLen = 0 ∧ t.fault = none ∧ t.env = []
end

