-- ==== Sys2Proof/Laws/Memory.lean ====
section
/-! SUPPORT. The packet storage: a read after a write, and that every operation keeps the canonical form. -/

namespace Sys2Proof.Machine.Memory

theorem read_erase_same (m : Memory) (a : Nat) : (m.erase a).read a = unlisted := by
  induction m with
  | nil => rfl
  | cons c m ih =>
    by_cases h : c.1 = a
    · simpa [erase, h] using ih
    · simpa [erase, h, read] using ih

theorem read_erase_other (m : Memory) {a a' : Nat} (h : a' ≠ a) : (m.erase a).read a' = m.read a' := by
  induction m with
  | nil => rfl
  | cons c m ih =>
    by_cases hc : c.1 = a
    · have : c.1 ≠ a' := fun e => h (e ▸ hc)
      simpa [erase, hc, read, this, h.symm] using ih
    · simp only [erase, bne_iff_ne, ne_eq, hc, not_false_eq_true, List.filter_cons_of_pos, read] at ih ⊢
      rw [ih]

theorem read_insert_other (m : Memory) {a a' : Nat} (v : Byte) (h : a' ≠ a) : (m.insert a v).read a' = m.read a' := by
  induction m with
  | nil => simp [insert, read, h.symm]
  | cons c m ih =>
    unfold insert
    split
    · simp [read, h.symm]
    · simp [read, ih]

theorem read_insert_same (m : Memory) (a : Nat) (v : Byte) (h : ∀ c ∈ m, c.1 ≠ a) : (m.insert a v).read a = v := by
  induction m with
  | nil => simp [insert, read]
  | cons c m ih =>
    unfold insert
    split
    · simp [read]
    · simp [read, h c List.mem_cons_self, ih fun d hd => h d (List.mem_cons_of_mem _ hd)]

theorem mem_erase {m : Memory} {a : Nat} {c : Host.Cell} : c ∈ m.erase a ↔ c ∈ m ∧ c.1 ≠ a := by
  simp [erase]

/-- A read of the index just written gives the byte written. -/
@[simp] theorem read_write_same (m : Memory) (a : Nat) (v : Byte) : (m.write a v).read a = v := by
  unfold write
  split
  · next h => rw [read_erase_same, h]
  · exact read_insert_same _ _ _ fun c hc => (mem_erase.mp hc).2

/-- A write leaves every other index alone. -/
theorem read_write_other (m : Memory) {a a' : Nat} (v : Byte) (h : a' ≠ a) : (m.write a v).read a' = m.read a' := by
  unfold write
  split
  · exact read_erase_other m h
  · rw [read_insert_other _ v h, read_erase_other m h]

theorem mem_insert {m : Memory} {a : Nat} {v : Byte} {c : Host.Cell} : c ∈ m.insert a v ↔ c = (a, v) ∨ c ∈ m := by
  induction m with
  | nil => simp [insert]
  | cons d m ih =>
    unfold insert
    split
    · simp
    · simp [ih, or_left_comm]

theorem erase_wf {m : Memory} (a : Nat) (h : m.wf) : (m.erase a).wf :=
  ⟨h.1.filter _, fun c hc => h.2 c (mem_erase.mp hc).1⟩

theorem insert_pairwise {m : Memory} {a : Nat} (v : Byte) (h : m.Pairwise (fun c d => c.1 < d.1))
    (ha : ∀ c ∈ m, c.1 ≠ a) : (m.insert a v).Pairwise (fun c d => c.1 < d.1) := by
  induction m with
  | nil => simp [insert]
  | cons d m ih =>
    obtain ⟨hd, hm⟩ := List.pairwise_cons.mp h
    unfold insert
    split
    · next hlt =>
      refine List.pairwise_cons.mpr ⟨fun c hc => ?_, h⟩
      rcases List.mem_cons.mp hc with rfl | hc
      · exact hlt
      · exact lt_trans hlt (hd c hc)
    · next hge =>
      refine List.pairwise_cons.mpr ⟨fun c hc => ?_, ih hm fun c hc => ha c (List.mem_cons_of_mem _ hc)⟩
      rcases mem_insert.mp hc with rfl | hc
      · exact lt_of_le_of_ne (not_lt.mp hge) (ha d List.mem_cons_self)
      · exact hd c hc

/-- A write keeps the canonical form. -/
theorem write_wf {m : Memory} (a : Nat) (v : Byte) (h : m.wf) : (m.write a v).wf := by
  unfold write
  split
  · exact erase_wf a h
  · next hv =>
    refine ⟨insert_pairwise v (erase_wf a h).1 fun c hc => (mem_erase.mp hc).2, fun c hc => ?_⟩
    rcases mem_insert.mp hc with rfl | hc
    · exact hv
    · exact (erase_wf a h).2 c hc

theorem writeAll_wf {m : Memory} (a : Nat) (vs : List Byte) (h : m.wf) : (writeAll m a vs).wf := by
  induction vs generalizing m a with
  | nil => exact h
  | cons v vs ih => exact ih (a + 1) (write_wf a v h)

theorem nil_wf : Memory.wf [] := by simp [wf]

/-- A write lists no index but its own. -/
theorem mem_write {m : Memory} {a : Nat} {v : Byte} {c : Host.Cell} (h : c ∈ m.write a v) : c.1 = a ∨ c ∈ m := by
  unfold write at h
  split at h
  · exact .inr (mem_erase.mp h).1
  · rcases mem_insert.mp h with rfl | h
    · exact .inl rfl
    · exact .inr (mem_erase.mp h).1

theorem writeAll_bound {m : Memory} (a k : Nat) (vs : List Byte) (hm : ∀ c ∈ m, c.1 < k) (hk : a + vs.length ≤ k) :
    ∀ c ∈ writeAll m a vs, c.1 < k := by
  induction vs generalizing m a with
  | nil => exact hm
  | cons v vs ih =>
    simp only [List.length_cons] at hk
    refine ih (a + 1) (fun c hc => ?_) (by omega)
    rcases mem_write hc with h | h
    · omega
    · exact hm c h

end Sys2Proof.Machine.Memory
end

