-- ==== Sys2Proof/Laws/State.lean ====
section
/-! SUPPORT. What each register write leaves in each field of the state: one lemma per field per update, so that no later
proof unfolds a record update. -/

namespace Sys2Proof.Machine.State

variable (s : State)

@[simp] theorem setSt_cfg (x : St) : (s.setSt x).cfg = s.cfg := rfl
@[simp] theorem setSt_st (x : St) : (s.setSt x).st = x := rfl
@[simp] theorem setSt_did (x : St) : (s.setSt x).did = s.did := rfl
@[simp] theorem setSt_bc (x : St) : (s.setSt x).bc = s.bc := rfl
@[simp] theorem setSt_pktMem (x : St) : (s.setSt x).pktMem = s.pktMem := rfl
@[simp] theorem setSt_pktLen (x : St) : (s.setSt x).pktLen = s.pktLen := rfl
@[simp] theorem setSt_fault (x : St) : (s.setSt x).fault = s.fault := rfl
@[simp] theorem setSt_tx (x : St) : (s.setSt x).tx = s.tx := rfl
@[simp] theorem setSt_txAns (x : St) : (s.setSt x).txAns = s.txAns := rfl
@[simp] theorem setSt_trace (x : St) : (s.setSt x).trace = s.trace := rfl
@[simp] theorem setSt_env (x : St) : (s.setSt x).env = s.env := rfl

@[simp] theorem setDid_cfg (x : Byte) : (s.setDid x).cfg = s.cfg := rfl
@[simp] theorem setDid_st (x : Byte) : (s.setDid x).st = s.st := rfl
@[simp] theorem setDid_did (x : Byte) : (s.setDid x).did = x := rfl
@[simp] theorem setDid_bc (x : Byte) : (s.setDid x).bc = s.bc := rfl
@[simp] theorem setDid_pktMem (x : Byte) : (s.setDid x).pktMem = s.pktMem := rfl
@[simp] theorem setDid_pktLen (x : Byte) : (s.setDid x).pktLen = s.pktLen := rfl
@[simp] theorem setDid_fault (x : Byte) : (s.setDid x).fault = s.fault := rfl
@[simp] theorem setDid_tx (x : Byte) : (s.setDid x).tx = s.tx := rfl
@[simp] theorem setDid_txAns (x : Byte) : (s.setDid x).txAns = s.txAns := rfl
@[simp] theorem setDid_trace (x : Byte) : (s.setDid x).trace = s.trace := rfl
@[simp] theorem setDid_env (x : Byte) : (s.setDid x).env = s.env := rfl

@[simp] theorem setBc_cfg (x : BitVec 32) : (s.setBc x).cfg = s.cfg := rfl
@[simp] theorem setBc_st (x : BitVec 32) : (s.setBc x).st = s.st := rfl
@[simp] theorem setBc_did (x : BitVec 32) : (s.setBc x).did = s.did := rfl
@[simp] theorem setBc_bc (x : BitVec 32) : (s.setBc x).bc = x := rfl
@[simp] theorem setBc_pktMem (x : BitVec 32) : (s.setBc x).pktMem = s.pktMem := rfl
@[simp] theorem setBc_pktLen (x : BitVec 32) : (s.setBc x).pktLen = s.pktLen := rfl
@[simp] theorem setBc_fault (x : BitVec 32) : (s.setBc x).fault = s.fault := rfl
@[simp] theorem setBc_tx (x : BitVec 32) : (s.setBc x).tx = s.tx := rfl
@[simp] theorem setBc_txAns (x : BitVec 32) : (s.setBc x).txAns = s.txAns := rfl
@[simp] theorem setBc_trace (x : BitVec 32) : (s.setBc x).trace = s.trace := rfl
@[simp] theorem setBc_env (x : BitVec 32) : (s.setBc x).env = s.env := rfl

@[simp] theorem store_cfg (v : Byte) : (s.store v).cfg = s.cfg := rfl
@[simp] theorem store_st (v : Byte) : (s.store v).st = s.st := rfl
@[simp] theorem store_did (v : Byte) : (s.store v).did = s.did := rfl
@[simp] theorem store_bc (v : Byte) : (s.store v).bc = s.bc := rfl
@[simp] theorem store_pktMem (v : Byte) : (s.store v).pktMem = s.pktMem.write s.pktLen v := rfl
@[simp] theorem store_pktLen (v : Byte) : (s.store v).pktLen = s.pktLen + 1 := rfl
@[simp] theorem store_fault (v : Byte) : (s.store v).fault = s.fault := rfl
@[simp] theorem store_tx (v : Byte) : (s.store v).tx = s.tx := rfl
@[simp] theorem store_txAns (v : Byte) : (s.store v).txAns = s.txAns := rfl
@[simp] theorem store_trace (v : Byte) : (s.store v).trace = s.trace := rfl
@[simp] theorem store_env (v : Byte) : (s.store v).env = s.env := rfl

@[simp] theorem clear_cfg : (s.clear).cfg = s.cfg := rfl
@[simp] theorem clear_st : (s.clear).st = s.st := rfl
@[simp] theorem clear_did : (s.clear).did = s.did := rfl
@[simp] theorem clear_bc : (s.clear).bc = s.bc := rfl
@[simp] theorem clear_pktMem : (s.clear).pktMem = s.pktMem := rfl
@[simp] theorem clear_pktLen : (s.clear).pktLen = 0 := rfl
@[simp] theorem clear_fault : (s.clear).fault = s.fault := rfl
@[simp] theorem clear_tx : (s.clear).tx = s.tx := rfl
@[simp] theorem clear_txAns : (s.clear).txAns = s.txAns := rfl
@[simp] theorem clear_trace : (s.clear).trace = s.trace := rfl
@[simp] theorem clear_env : (s.clear).env = s.env := rfl

@[simp] theorem setFault_cfg (r : FaultReason) : (s.setFault r).cfg = s.cfg := rfl
@[simp] theorem setFault_st (r : FaultReason) : (s.setFault r).st = s.st := rfl
@[simp] theorem setFault_did (r : FaultReason) : (s.setFault r).did = s.did := rfl
@[simp] theorem setFault_bc (r : FaultReason) : (s.setFault r).bc = s.bc := rfl
@[simp] theorem setFault_pktMem (r : FaultReason) : (s.setFault r).pktMem = s.pktMem := rfl
@[simp] theorem setFault_pktLen (r : FaultReason) : (s.setFault r).pktLen = s.pktLen := rfl
@[simp] theorem setFault_fault (r : FaultReason) : (s.setFault r).fault = some r := rfl
@[simp] theorem setFault_tx (r : FaultReason) : (s.setFault r).tx = s.tx := rfl
@[simp] theorem setFault_txAns (r : FaultReason) : (s.setFault r).txAns = s.txAns := rfl
@[simp] theorem setFault_trace (r : FaultReason) : (s.setFault r).trace = s.trace := rfl
@[simp] theorem setFault_env (r : FaultReason) : (s.setFault r).env = s.env := rfl

@[simp] theorem openTx_cfg (r : TxRequest) : (s.openTx r).cfg = s.cfg := rfl
@[simp] theorem openTx_st (r : TxRequest) : (s.openTx r).st = s.st := rfl
@[simp] theorem openTx_did (r : TxRequest) : (s.openTx r).did = s.did := rfl
@[simp] theorem openTx_bc (r : TxRequest) : (s.openTx r).bc = s.bc := rfl
@[simp] theorem openTx_pktMem (r : TxRequest) : (s.openTx r).pktMem = s.pktMem := rfl
@[simp] theorem openTx_pktLen (r : TxRequest) : (s.openTx r).pktLen = s.pktLen := rfl
@[simp] theorem openTx_fault (r : TxRequest) : (s.openTx r).fault = s.fault := rfl
@[simp] theorem openTx_tx (r : TxRequest) : (s.openTx r).tx = some r := rfl
@[simp] theorem openTx_txAns (r : TxRequest) : (s.openTx r).txAns = s.txAns := rfl
@[simp] theorem openTx_trace (r : TxRequest) : (s.openTx r).trace = s.trace ++ [.tx r] := rfl
@[simp] theorem openTx_env (r : TxRequest) : (s.openTx r).env = s.env := rfl

@[simp] theorem closeTx_cfg : (s.closeTx).cfg = s.cfg := rfl
@[simp] theorem closeTx_st : (s.closeTx).st = s.st := rfl
@[simp] theorem closeTx_did : (s.closeTx).did = s.did := rfl
@[simp] theorem closeTx_bc : (s.closeTx).bc = s.bc := rfl
@[simp] theorem closeTx_pktMem : (s.closeTx).pktMem = s.pktMem := rfl
@[simp] theorem closeTx_pktLen : (s.closeTx).pktLen = s.pktLen := rfl
@[simp] theorem closeTx_fault : (s.closeTx).fault = s.fault := rfl
@[simp] theorem closeTx_tx : (s.closeTx).tx = none := rfl
@[simp] theorem closeTx_txAns : (s.closeTx).txAns = s.txAns := rfl
@[simp] theorem closeTx_trace : (s.closeTx).trace = s.trace := rfl
@[simp] theorem closeTx_env : (s.closeTx).env = s.env := rfl

@[simp] theorem emit_cfg (r : Response) : (s.emit r).cfg = s.cfg := rfl
@[simp] theorem emit_st (r : Response) : (s.emit r).st = s.st := rfl
@[simp] theorem emit_did (r : Response) : (s.emit r).did = s.did := rfl
@[simp] theorem emit_bc (r : Response) : (s.emit r).bc = s.bc := rfl
@[simp] theorem emit_pktMem (r : Response) : (s.emit r).pktMem = s.pktMem := rfl
@[simp] theorem emit_pktLen (r : Response) : (s.emit r).pktLen = s.pktLen := rfl
@[simp] theorem emit_fault (r : Response) : (s.emit r).fault = s.fault := rfl
@[simp] theorem emit_tx (r : Response) : (s.emit r).tx = s.tx := rfl
@[simp] theorem emit_txAns (r : Response) : (s.emit r).txAns = s.txAns := rfl
@[simp] theorem emit_trace (r : Response) : (s.emit r).trace = s.trace ++ [.rsp r] := rfl
@[simp] theorem emit_env (r : Response) : (s.emit r).env = s.env := rfl

@[simp] theorem accept_cfg (rest : List EnvEvent) (answer : Option Nat) : (s.accept rest answer).cfg = s.cfg := rfl
@[simp] theorem accept_st (rest : List EnvEvent) (answer : Option Nat) : (s.accept rest answer).st = s.st := rfl
@[simp] theorem accept_did (rest : List EnvEvent) (answer : Option Nat) : (s.accept rest answer).did = s.did := rfl
@[simp] theorem accept_bc (rest : List EnvEvent) (answer : Option Nat) : (s.accept rest answer).bc = s.bc := rfl
@[simp] theorem accept_pktMem (rest : List EnvEvent) (answer : Option Nat) : (s.accept rest answer).pktMem = s.pktMem := rfl
@[simp] theorem accept_pktLen (rest : List EnvEvent) (answer : Option Nat) : (s.accept rest answer).pktLen = s.pktLen := rfl
@[simp] theorem accept_fault (rest : List EnvEvent) (answer : Option Nat) : (s.accept rest answer).fault = s.fault := rfl
@[simp] theorem accept_tx (rest : List EnvEvent) (answer : Option Nat) : (s.accept rest answer).tx = s.tx := rfl
@[simp] theorem accept_txAns (rest : List EnvEvent) (answer : Option Nat) : (s.accept rest answer).txAns = answer := rfl
@[simp] theorem accept_trace (rest : List EnvEvent) (answer : Option Nat) : (s.accept rest answer).trace = s.trace := rfl
@[simp] theorem accept_env (rest : List EnvEvent) (answer : Option Nat) : (s.accept rest answer).env = rest := rfl

@[simp] theorem sessionReset_cfg : (s.sessionReset).cfg = s.cfg := rfl
@[simp] theorem sessionReset_st : (s.sessionReset).st = .entry := rfl
@[simp] theorem sessionReset_did : (s.sessionReset).did = 0 := rfl
@[simp] theorem sessionReset_bc : (s.sessionReset).bc = 0 := rfl
@[simp] theorem sessionReset_pktMem : (s.sessionReset).pktMem = s.pktMem := rfl
@[simp] theorem sessionReset_pktLen : (s.sessionReset).pktLen = 0 := rfl
@[simp] theorem sessionReset_fault : (s.sessionReset).fault = s.fault := rfl
@[simp] theorem sessionReset_tx : (s.sessionReset).tx = s.tx := rfl
@[simp] theorem sessionReset_txAns : (s.sessionReset).txAns = s.txAns := rfl
@[simp] theorem sessionReset_trace : (s.sessionReset).trace = s.trace := rfl
@[simp] theorem sessionReset_env : (s.sessionReset).env = s.env := rfl

@[simp] theorem toDispatch_cfg : (s.toDispatch).cfg = s.cfg := rfl
@[simp] theorem toDispatch_st : (s.toDispatch).st = .zppDispatch := rfl
@[simp] theorem toDispatch_did : (s.toDispatch).did = s.did := rfl
@[simp] theorem toDispatch_bc : (s.toDispatch).bc = s.bc := rfl
@[simp] theorem toDispatch_pktMem : (s.toDispatch).pktMem = s.pktMem := rfl
@[simp] theorem toDispatch_pktLen : (s.toDispatch).pktLen = 0 := rfl
@[simp] theorem toDispatch_fault : (s.toDispatch).fault = s.fault := rfl
@[simp] theorem toDispatch_tx : (s.toDispatch).tx = s.tx := rfl
@[simp] theorem toDispatch_txAns : (s.toDispatch).txAns = s.txAns := rfl
@[simp] theorem toDispatch_trace : (s.toDispatch).trace = s.trace := rfl
@[simp] theorem toDispatch_env : (s.toDispatch).env = s.env := rfl

@[simp] theorem powerOn_cfg (contents : List Byte) : (s.powerOn contents).cfg = s.cfg := rfl
@[simp] theorem powerOn_st (contents : List Byte) : (s.powerOn contents).st = .entry := rfl
@[simp] theorem powerOn_did (contents : List Byte) : (s.powerOn contents).did = 0 := rfl
@[simp] theorem powerOn_bc (contents : List Byte) : (s.powerOn contents).bc = 0 := rfl
@[simp] theorem powerOn_pktMem (contents : List Byte) : (s.powerOn contents).pktMem = Memory.writeAll [] 0 (contents.take s.cfg.maxFrame) := rfl
@[simp] theorem powerOn_pktLen (contents : List Byte) : (s.powerOn contents).pktLen = 0 := rfl
@[simp] theorem powerOn_fault (contents : List Byte) : (s.powerOn contents).fault = none := rfl
@[simp] theorem powerOn_tx (contents : List Byte) : (s.powerOn contents).tx = none := rfl
@[simp] theorem powerOn_txAns (contents : List Byte) : (s.powerOn contents).txAns = s.txAns := rfl
@[simp] theorem powerOn_trace (contents : List Byte) : (s.powerOn contents).trace = s.trace := rfl
@[simp] theorem powerOn_env (contents : List Byte) : (s.powerOn contents).env = s.env := rfl

end Sys2Proof.Machine.State
end

