-- ==== Sys2Proof/Laws/Ops.lean ====
section
/-! SUPPORT. What the shared operations do, each said once: the packet as a list, the answers of append, transmit and the
row gate, and which views each register write leaves alone. -/

namespace Sys2Proof.Machine

/-! ### The packet as a list -/

/-- The packet is fixed by the length and by the bytes below it. -/
theorem State.pkt_congr {s t : State} (hl : t.pktLen = s.pktLen)
    (hr : ∀ a < s.pktLen, t.pktMem.read a = s.pktMem.read a) : t.pkt = s.pkt := by
  unfold State.pkt
  rw [hl]
  exact List.map_congr_left fun a ha => hr a (List.mem_range.mp ha)

@[simp] theorem State.length_pkt (s : State) : s.pkt.length = s.pktLen := by simp [State.pkt]

/-- `Append` below capacity puts the byte after the others (R41, R44). -/
@[simp] theorem State.pkt_store (s : State) (v : Byte) : (s.store v).pkt = s.pkt ++ [v] := by
  have h : (List.range s.pktLen).map (s.pktMem.write s.pktLen v).read = (List.range s.pktLen).map s.pktMem.read :=
    List.map_congr_left fun a ha => Memory.read_write_other _ v (List.mem_range.mp ha).ne
  simp [State.pkt, List.range_succ, h]

/-- `Clear` empties the packet (R42). -/
@[simp] theorem State.pkt_clear (s : State) : s.clear.pkt = [] := rfl
@[simp] theorem State.pkt_sessionReset (s : State) : s.sessionReset.pkt = [] := rfl
@[simp] theorem State.pkt_toDispatch (s : State) : s.toDispatch.pkt = [] := rfl
@[simp] theorem State.pkt_powerOn (s : State) (c : List Byte) : (s.powerOn c).pkt = [] := rfl
@[simp] theorem State.pkt_setSt (s : State) (x : St) : (s.setSt x).pkt = s.pkt := rfl
@[simp] theorem State.pkt_setDid (s : State) (x : Byte) : (s.setDid x).pkt = s.pkt := rfl
@[simp] theorem State.pkt_setBc (s : State) (x : BitVec 32) : (s.setBc x).pkt = s.pkt := rfl
@[simp] theorem State.pkt_setFault (s : State) (r : FaultReason) : (s.setFault r).pkt = s.pkt := rfl
@[simp] theorem State.pkt_openTx (s : State) (r : TxRequest) : (s.openTx r).pkt = s.pkt := rfl
@[simp] theorem State.pkt_closeTx (s : State) : s.closeTx.pkt = s.pkt := rfl
@[simp] theorem State.pkt_emit (s : State) (r : Response) : (s.emit r).pkt = s.pkt := rfl
@[simp] theorem State.pkt_accept (s : State) (e : List EnvEvent) (a : Option Nat) : (s.accept e a).pkt = s.pkt := rfl

/-! ### The decoder's view and `rx_ready` -/

@[simp] theorem State.ctx_cfg (s : State) : s.ctx.cfg = s.cfg := rfl
@[simp] theorem State.ctx_st (s : State) : s.ctx.st = s.st := rfl
@[simp] theorem State.ctx_did (s : State) : s.ctx.did = s.did := rfl
@[simp] theorem State.ctx_pkt (s : State) : s.ctx.pkt = s.pkt := rfl
@[simp] theorem State.ctx_n (s : State) : s.ctx.n = s.pktLen + 1 := by simp [Ctx.n]
@[simp] theorem State.ctx_accept (s : State) (e : List EnvEvent) (a : Option Nat) : (s.accept e a).ctx = s.ctx := rfl
@[simp] theorem State.rxReady_setSt (s : State) (x : St) : (s.setSt x).rxReady = s.rxReady := rfl
@[simp] theorem State.rxReady_clear (s : State) : s.clear.rxReady = s.rxReady := rfl
@[simp] theorem State.rxReady_accept (s : State) (e : List EnvEvent) (a : Option Nat) :
    (s.accept e a).rxReady = s.rxReady := rfl

/-- `rx_ready` is high exactly with no fault and no request pending (R89). -/
theorem State.rxReady_iff (s : State) : s.rxReady = true ↔ s.fault = none ∧ s.tx = none := by
  simp [State.rxReady]

/-! ### What each primitive answers -/

@[simp] theorem State.raise_eq_next {s t : State} {r : FaultReason} : s.raise r = .next t ↔ t = s.setFault r := by
  simp [State.raise, eq_comm]

@[simp] theorem State.respond_eq_next {s t : State} {r : Response} : s.respond r = .next t ↔ t = s.emit r := by
  simp [State.respond, eq_comm]

theorem State.append_of_lt {s : State} {v : Byte} {k : State → Result} (h : s.pktLen < s.cfg.maxFrame) :
    s.append v k = k (s.store v) := by
  simp [State.append, Nat.not_le.mpr h]

theorem State.append_of_full {s : State} {v : Byte} {k : State → Result} (h : s.cfg.maxFrame ≤ s.pktLen) :
    s.append v k = s.raise .packetOverflow := by
  simp [State.append, h]

/-- `Append` either overflows and writes nothing, or stores the byte and goes on (R41). -/
theorem State.append_eq_next {s t : State} {v : Byte} {k : State → Result} (h : s.append v k = .next t) :
    (s.cfg.maxFrame ≤ s.pktLen ∧ t = s.setFault .packetOverflow) ∨
      (s.pktLen < s.cfg.maxFrame ∧ k (s.store v) = .next t) := by
  by_cases hf : s.cfg.maxFrame ≤ s.pktLen
  · exact .inl ⟨hf, by simpa [State.append_of_full hf] using h⟩
  · exact .inr ⟨Nat.lt_of_not_le hf, by simpa [State.append_of_lt (Nat.lt_of_not_le hf)] using h⟩

theorem State.transmit_of_answer {s : State} {bs : List Byte} {op : TimeoutClass} {k : Nat → State → Result} {p : Nat}
    (h : s.txAns = some p) : s.transmit bs op k = k (portPulses p) (s.openTx ⟨bs, op⟩).closeTx := by
  simp [State.transmit, h]

theorem State.transmit_of_silence {s : State} {bs : List Byte} {op : TimeoutClass} {k : Nat → State → Result}
    (h : s.txAns = none) : s.transmit bs op k = .next (s.openTx ⟨bs, op⟩) := by
  simp [State.transmit, h]

/-- `Transmit` either waits for ever with the request on the port, or goes on with the pulse count (R209, I8). -/
theorem State.transmit_eq_next {s t : State} {bs : List Byte} {op : TimeoutClass} {k : Nat → State → Result}
    (h : s.transmit bs op k = .next t) :
    (s.txAns = none ∧ t = s.openTx ⟨bs, op⟩) ∨
      ∃ p, s.txAns = some p ∧ k (portPulses p) (s.openTx ⟨bs, op⟩).closeTx = .next t := by
  cases ha : s.txAns with
  | none => exact .inl ⟨rfl, by simpa [State.transmit_of_silence ha, eq_comm] using h⟩
  | some p => exact .inr ⟨p, rfl, by simpa [State.transmit_of_answer ha] using h⟩

theorem runRow_of_selects {i : Instr} {s : State} {k : State → Result} (hr : s.rxReady = true)
    (hs : s.ctx.selects i = true) : runRow i s k = k s := by
  simp [runRow, hr, hs]

/-- A row answers a next state only where `rx_ready` is high and the decoder selects the row (R70, R89). -/
theorem runRow_eq_next {i : Instr} {s t : State} {k : State → Result} (h : runRow i s k = .next t) :
    s.rxReady = true ∧ s.ctx.selects i = true ∧ k s = .next t := by
  unfold runRow at h
  split at h
  · next hr =>
    split at h
    · next hs => exact ⟨hr, hs, h⟩
    · cases h
  · cases h

/-! ### The pulse port -/

/-- The two counts the mapper tells apart survive the port (R209, D24). -/
theorem portPulses_of_lt {p : Nat} (h : p < 256) : portPulses p = p := by
  simp only [portPulses, Config.pulseWidth]
  omega

theorem portPulses_eq_one {p : Nat} : portPulses p = 1 ↔ p = 1 := by
  simp only [portPulses, Config.pulseWidth]
  omega

theorem portPulses_eq_two {p : Nat} : portPulses p = 2 ↔ p = 2 := by
  simp only [portPulses, Config.pulseWidth]
  omega

end Sys2Proof.Machine
end

