-- ==== Sys2Proof/Laws/Exec.lean ====
section
/-! SUPPORT. What every row shares: exec goes through the gate of rows, and a hand-on runs the row that the receiving handler
selects. -/

namespace Sys2Proof.Machine

/-- Every meaning is gated (R70, R82). -/
theorem exec_eq_runRow (i : Instr) (s : State) : ∃ k, exec i s = runRow i s k := by
  cases i <;>
    simp only [exec, execEntrySkip, execEntryFallthrough, execPrePreamble, execPreSelectZpp, execPreSelectZsu,
      execZppCmdReadCv, execZppCmdWriteCv, execZppCmdFlashErase, execZppCmdDecoderId, execZppCmdFlashWrite,
      execZppCmdWriteCvExt, execZppCmdCrcXorQuery, execZppCmdUnknown, execZppReadCvFrameByte, execZppReadCvFrameEnd,
      execZppReadCvProbe, execZppReadCvLast, execZppWriteCvByte, execZppWriteCvEnd, execZppEraseByte, execZppEraseEndOk,
      execZppEraseEndBad, execZppFlashWriteByte, execZppFlashWriteEnd, execZppDecoderIdByte, execZppDecoderIdLast,
      execZppCrcXorByte, execZppCrcXorLast, execZsuDecoderId, execZsuBlockCount, execZsuSec1Ok, execZsuSec1Bad,
      execZsuSec2Ok, execZsuSec2Bad, execZsuBlockByte, execZsuBlockEnd, execHostReset] <;>
    exact ⟨_, rfl⟩

/-- A row answers a next state only on a ready engine whose decoder selects it. -/
theorem exec_eq_next {i : Instr} {s t : State} (h : exec i s = .next t) :
    s.rxReady = true ∧ s.ctx.selects i = true := by
  obtain ⟨k, hk⟩ := exec_eq_runRow i s
  have := runRow_eq_next (hk.symm.trans h)
  exact ⟨this.1, this.2.1⟩

/-- `goto Preamble` runs the row that the decoder gives there. -/
theorem gotoPreamble_eq_exec {b : Byte} {s : State} {i : Instr} (hs : s.st = .preamble)
    (hd : decode s.ctx (.rx b) = .row i) : gotoPreamble b s = exec i s := by
  simp only [decode, decodeByte, State.ctx_st, hs] at hd
  unfold Ctx.selectPreamble at hd
  unfold gotoPreamble Ctx.selectPreamble
  split at hd
  · cases hd; simp_all [exec]
  · split at hd <;> cases hd <;> simp_all [exec]

/-- `goto ZppDispatch` runs the row that the decoder gives there. -/
theorem gotoZppDispatch_eq_exec {b : Byte} {s : State} {i : Instr} (hs : s.st = .zppDispatch)
    (hd : decode s.ctx (.rx b) = .row i) : gotoZppDispatch b s = exec i s := by
  simp only [decode, decodeByte, State.ctx_st, hs] at hd
  unfold selectDispatch at hd
  unfold gotoZppDispatch selectDispatch
  repeat' split at hd
  all_goals (cases hd; simp_all [exec])

end Sys2Proof.Machine
end

