-- ==== Sys2Proof/Laws/PerInstr.lean ====
section
/-! SUPPORT. Facts about every instruction as syntax, one lemma per constructor. RowPattern: a well-formed instruction is
encoded by a byte that fits its row's `match` and `mask` (30_encoding.md R70). -/

namespace Sys2Proof.Laws.RowPattern

/-- The table's `mask` and `match` of a row; HOST_RESET has neither. -/
def pattern : Instr → Option (Byte × Byte)
  | .entrySkip _          => some (0x00, 0x00)
  | .entryFallthrough _   => some (0x00, 0x00)
  | .prePreamble _        => some (0x00, 0x00)
  | .preSelectZpp _       => some (0x80, 0x00)
  | .preSelectZsu _       => some (0x80, 0x80)
  | .zppCmdReadCv         => some (0xFF, 0x01)
  | .zppCmdWriteCv        => some (0xFF, 0x02)
  | .zppCmdFlashErase     => some (0xFF, 0x03)
  | .zppCmdDecoderId      => some (0xFF, 0x04)
  | .zppCmdFlashWrite     => some (0xFF, 0x05)
  | .zppCmdWriteCvExt     => some (0xFF, 0x06)
  | .zppCmdCrcXorQuery    => some (0xFF, 0x07)
  | .zppCmdUnknown _      => some (0x00, 0x00)
  | .zppReadCvFrameByte _ => some (0x00, 0x00)
  | .zppReadCvFrameEnd _  => some (0x00, 0x00)
  | .zppReadCvProbe _     => some (0x00, 0x00)
  | .zppReadCvLast _      => some (0x00, 0x00)
  | .zppWriteCvByte _     => some (0x00, 0x00)
  | .zppWriteCvEnd _      => some (0x00, 0x00)
  | .zppEraseByte _       => some (0x00, 0x00)
  | .zppEraseEndOk        => some (0xFF, 0xFF)
  | .zppEraseEndBad _     => some (0x00, 0x00)
  | .zppFlashWriteByte _  => some (0x00, 0x00)
  | .zppFlashWriteEnd _   => some (0x00, 0x00)
  | .zppDecoderIdByte _   => some (0x00, 0x00)
  | .zppDecoderIdLast _   => some (0x00, 0x00)
  | .zppCrcXorByte _      => some (0x00, 0x00)
  | .zppCrcXorLast _      => some (0x00, 0x00)
  | .zsuDecoderId _       => some (0x00, 0x00)
  | .zsuBlockCount _      => some (0x00, 0x00)
  | .zsuSec1Ok            => some (0xFF, 0x55)
  | .zsuSec1Bad _         => some (0x00, 0x00)
  | .zsuSec2Ok            => some (0xFF, 0xAA)
  | .zsuSec2Bad _         => some (0x00, 0x00)
  | .zsuBlockByte _       => some (0x00, 0x00)
  | .zsuBlockEnd _        => some (0x00, 0x00)
  | .hostReset            => none

/-- The host's action fits the row's pattern: a byte where the row has one, the reset where it has none. -/
def fits : Option (Byte × Byte) → HostAction → Prop
  | some (mask, value), .rx b => b &&& mask = value
  | none, .reset => True
  | some _, .reset => False
  | none, .rx _ => False

/-- A well-formed instruction is encoded by an action that fits its row. -/
def Statement (i : Instr) : Prop := ∀ c : Ctx, WellFormed c i = true → fits (pattern i) (encode i)

/-- A row with an empty mask fits every byte. -/
theorem fits_any (b : Byte) : fits (some (0x00, 0x00)) (.rx b) := by simp [fits]

theorem entrySkip (b : Byte) : Statement (.entrySkip b) := fun _ _ => fits_any b
theorem entryFallthrough (b : Byte) : Statement (.entryFallthrough b) := fun _ _ => fits_any b
theorem prePreamble (b : Byte) : Statement (.prePreamble b) := fun _ _ => fits_any b
theorem preSelectZpp (b : Byte) : Statement (.preSelectZpp b) := fun c h => by
  simp only [WellFormed, patternFits, Bool.and_eq_true, beq_iff_eq] at h
  exact h.1.2
theorem preSelectZsu (b : Byte) : Statement (.preSelectZsu b) := fun c h => by
  simp only [WellFormed, patternFits, Bool.and_eq_true, beq_iff_eq] at h
  exact h.1.2
theorem zppCmdReadCv : Statement (.zppCmdReadCv) := fun _ _ => by simp [fits, pattern, encode]
theorem zppCmdWriteCv : Statement (.zppCmdWriteCv) := fun _ _ => by simp [fits, pattern, encode]
theorem zppCmdFlashErase : Statement (.zppCmdFlashErase) := fun _ _ => by simp [fits, pattern, encode]
theorem zppCmdDecoderId : Statement (.zppCmdDecoderId) := fun _ _ => by simp [fits, pattern, encode]
theorem zppCmdFlashWrite : Statement (.zppCmdFlashWrite) := fun _ _ => by simp [fits, pattern, encode]
theorem zppCmdWriteCvExt : Statement (.zppCmdWriteCvExt) := fun _ _ => by simp [fits, pattern, encode]
theorem zppCmdCrcXorQuery : Statement (.zppCmdCrcXorQuery) := fun _ _ => by simp [fits, pattern, encode]
theorem zppCmdUnknown (b : Byte) : Statement (.zppCmdUnknown b) := fun _ _ => fits_any b
theorem zppReadCvFrameByte (b : Byte) : Statement (.zppReadCvFrameByte b) := fun _ _ => fits_any b
theorem zppReadCvFrameEnd (b : Byte) : Statement (.zppReadCvFrameEnd b) := fun _ _ => fits_any b
theorem zppReadCvProbe (b : Byte) : Statement (.zppReadCvProbe b) := fun _ _ => fits_any b
theorem zppReadCvLast (b : Byte) : Statement (.zppReadCvLast b) := fun _ _ => fits_any b
theorem zppWriteCvByte (b : Byte) : Statement (.zppWriteCvByte b) := fun _ _ => fits_any b
theorem zppWriteCvEnd (b : Byte) : Statement (.zppWriteCvEnd b) := fun _ _ => fits_any b
theorem zppEraseByte (b : Byte) : Statement (.zppEraseByte b) := fun _ _ => fits_any b
theorem zppEraseEndOk : Statement (.zppEraseEndOk) := fun _ _ => by simp [fits, pattern, encode]
theorem zppEraseEndBad (b : Byte) : Statement (.zppEraseEndBad b) := fun _ _ => fits_any b
theorem zppFlashWriteByte (b : Byte) : Statement (.zppFlashWriteByte b) := fun _ _ => fits_any b
theorem zppFlashWriteEnd (b : Byte) : Statement (.zppFlashWriteEnd b) := fun _ _ => fits_any b
theorem zppDecoderIdByte (b : Byte) : Statement (.zppDecoderIdByte b) := fun _ _ => fits_any b
theorem zppDecoderIdLast (b : Byte) : Statement (.zppDecoderIdLast b) := fun _ _ => fits_any b
theorem zppCrcXorByte (b : Byte) : Statement (.zppCrcXorByte b) := fun _ _ => fits_any b
theorem zppCrcXorLast (b : Byte) : Statement (.zppCrcXorLast b) := fun _ _ => fits_any b
theorem zsuDecoderId (b : Byte) : Statement (.zsuDecoderId b) := fun _ _ => fits_any b
theorem zsuBlockCount (b : Byte) : Statement (.zsuBlockCount b) := fun _ _ => fits_any b
theorem zsuSec1Ok : Statement (.zsuSec1Ok) := fun _ _ => by simp [fits, pattern, encode]
theorem zsuSec1Bad (b : Byte) : Statement (.zsuSec1Bad b) := fun _ _ => fits_any b
theorem zsuSec2Ok : Statement (.zsuSec2Ok) := fun _ _ => by simp [fits, pattern, encode]
theorem zsuSec2Bad (b : Byte) : Statement (.zsuSec2Bad b) := fun _ _ => fits_any b
theorem zsuBlockByte (b : Byte) : Statement (.zsuBlockByte b) := fun _ _ => fits_any b
theorem zsuBlockEnd (b : Byte) : Statement (.zsuBlockEnd b) := fun _ _ => fits_any b
theorem hostReset : Statement (.hostReset) := fun _ _ => trivial

end Sys2Proof.Laws.RowPattern
end

