-- ==== Sys2Proof/Tests/Slice0.lean ====
section
/-! SUPPORT. The model's own tests. The expected results are those of spec/95_test_vectors.md, whose vector a test names; the
encodings are written from 30_encoding.md R70. The last part meets the hypotheses of every statement that has some. -/

namespace Sys2Proof.Tests

open Sys2Proof.Machine

/-! ### Small states and what a test looks at -/

/-- A ready engine under TC, in a given state with a given session context and packet. -/
def given (st : St) (did : Byte) (bc : BitVec 32) (pkt : List Byte) : State :=
  { State.reset with
    st := st, did := did, bc := bc, pktMem := Memory.writeAll [] 0 pkt, pktLen := pkt.length }

/-- It is handed a byte; the transmitter answers `p` if asked. -/
def fed (s : State) (b : Byte) (p : Nat) : State := { s with env := [.rx b (some p)] }

/-- The transmitter's answer is set for a row that is run directly. -/
def answered (s : State) (p : Nat) : State := { s with txAns := some p }

/-- What a test sees of an outcome: state, identifier, block count, packet, fault, and what left the engine. -/
structure Shown where
  st    : St
  did   : Byte
  bc    : BitVec 32
  pkt   : List Byte
  fault : Option FaultReason
  out   : List Event
  deriving DecidableEq, Repr

def shown : Result → Option Shown
  | .next t => some ⟨t.st, t.did, t.bc, t.pkt, t.fault, t.trace⟩
  | .fault _ => none
  | .refused _ => none

def isNext : Result → Bool
  | .next _ => true
  | .fault _ => false
  | .refused _ => false

def faultOf : Result → Option Fault
  | .next _ => none
  | .fault f => some f
  | .refused _ => none

def refusalOf : Result → Option Refusal
  | .next _ => none
  | .fault _ => none
  | .refused r => some r

theorem exists_next {r : Result} (h : isNext r = true) : ∃ t, r = .next t := by
  cases r with
  | next t => exact ⟨t, rfl⟩
  | fault _ => cases h
  | refused _ => cases h

/-- The context of a row: TC, a state and a packet. -/
def at_ (st : St) (pkt : List Byte) : Ctx := ⟨Config.test, st, 0x91, pkt⟩

/-! ### WellFormed: an ill-formed term for each check -/

theorem test_wf_state_column :
    WellFormed (at_ .preamble []) (.entrySkip 0x44) = false ∧ WellFormed (at_ .entry []) .zppCmdReadCv = false ∧
    WellFormed (at_ .zppDispatch []) (.zsuDecoderId 0x91) = false ∧ WellFormed (at_ .zsuBlocks []) (.zsuBlockCount 0) = false ∧
    WellFormed (at_ .entry []) .zsuSec1Ok = false ∧ WellFormed (at_ .zsuSecurityByte1 []) .zsuSec2Ok = false := by decide

theorem test_wf_banner :
    WellFormed (at_ .entry []) (.entrySkip 0xBF) = false ∧ WellFormed (at_ .entry []) (.entryFallthrough 0x0D) = false := by
  decide

theorem test_wf_preamble_codes :
    WellFormed (at_ .preamble []) (.prePreamble 0xBE) = false ∧ WellFormed (at_ .preamble []) (.preSelectZsu 0xEF) = false ∧
    WellFormed ⟨{ Config.test with pre0 := 0x05 }, .preamble, 0, []⟩ (.preSelectZpp 0x05) = false := by decide

theorem test_wf_bit7 :
    WellFormed (at_ .preamble []) (.preSelectZpp 0x80) = false ∧ WellFormed (at_ .preamble []) (.preSelectZsu 0x7F) = false := by
  decide

theorem test_wf_unknown_command :
    WellFormed (at_ .zppDispatch []) (.zppCmdUnknown 0x01) = false ∧
    WellFormed (at_ .zppDispatch []) (.zppCmdUnknown 0x07) = false := by decide

theorem test_wf_read_cv_count :
    WellFormed (at_ .zppReadCv [1, 0]) (.zppReadCvFrameByte 0) = false ∧
    WellFormed (at_ .zppReadCv [1]) (.zppReadCvFrameEnd 0) = false ∧
    WellFormed (at_ .zppReadCv [1, 0]) (.zppReadCvProbe 0) = false ∧
    WellFormed (at_ .zppReadCv [1, 0, 0, 0, 0, 0, 0, 0, 0]) (.zppReadCvProbe 0) = false ∧
    WellFormed (at_ .zppReadCv [1, 0, 0, 0, 0, 0, 0, 0]) (.zppReadCvLast 0) = false := by decide

theorem test_wf_write_cv_length :
    WellFormed (at_ .zppWriteCv [2, 0x55, 0, 1]) (.zppWriteCvByte 3) = false ∧
    WellFormed (at_ .zppWriteCv [2, 0x55, 0]) (.zppWriteCvEnd 3) = false ∧
    WellFormed (at_ .zppWriteCv [6, 0x55, 0, 1]) (.zppWriteCvEnd 3) = false := by decide

theorem test_wf_erase :
    WellFormed (at_ .zppFlashErase [3, 0x55, 0xFF]) (.zppEraseByte 0xFF) = false ∧
    WellFormed (at_ .zppFlashErase [3, 0x55, 0xFE]) .zppEraseEndOk = false ∧
    WellFormed (at_ .zppFlashErase [3, 0x54, 0xFF]) .zppEraseEndOk = false ∧
    WellFormed (at_ .zppFlashErase [3, 0x55]) .zppEraseEndOk = false ∧
    WellFormed (at_ .zppFlashErase [3, 0x55, 0xFF]) (.zppEraseEndBad 0xFF) = false ∧
    WellFormed (at_ .zppFlashErase [3, 0x55]) (.zppEraseEndBad 0x00) = false := by decide

theorem test_wf_frame_lengths :
    WellFormed (at_ .zppFlashWrite [5, 1, 2, 3, 4, 5, 6, 7, 8, 9, 10]) (.zppFlashWriteByte 0) = false ∧
    WellFormed (at_ .zppFlashWrite [5, 1, 2, 3, 4, 5, 6, 7, 8, 9]) (.zppFlashWriteEnd 0) = false ∧
    WellFormed (at_ .zppDecoderId [4, 0, 0, 0, 0, 0, 0]) (.zppDecoderIdByte 0) = false ∧
    WellFormed (at_ .zppDecoderId [4, 0, 0, 0, 0, 0]) (.zppDecoderIdLast 0) = false ∧
    WellFormed (at_ .zppCrcOrXorQuery [7, 0, 0, 0, 0, 0, 0]) (.zppCrcXorByte 0) = false ∧
    WellFormed (at_ .zppCrcOrXorQuery [7, 0, 0, 0, 0, 0]) (.zppCrcXorLast 0) = false := by decide

theorem test_wf_zsu :
    WellFormed (at_ .zsuSecurityByte1 []) (.zsuSec1Bad 0x55) = false ∧
    WellFormed (at_ .zsuSecurityByte2 []) (.zsuSec2Bad 0xAA) = false ∧
    WellFormed (at_ .zsuBlocks [0, 0x12, 0x34]) (.zsuBlockByte 0) = false ∧
    WellFormed (at_ .zsuBlocks [0, 0x12]) (.zsuBlockEnd 0) = false := by decide

/-! ### Decoding: each row's byte in its state, bit by bit -/

theorem test_decode_common :
    decode (at_ .entry []) (.rx 0b00001101) = .row (.entrySkip 0x0D) ∧
    decode (at_ .entry []) (.rx 0b11101111) = .row (.entryFallthrough 0xEF) ∧
    decode (at_ .preamble []) (.rx 0b10111111) = .row (.prePreamble 0xBF) ∧
    decode (at_ .preamble []) (.rx 0b01111111) = .row (.preSelectZpp 0x7F) ∧
    decode (at_ .preamble []) (.rx 0b10000000) = .row (.preSelectZsu 0x80) := by decide

theorem test_decode_commands :
    decode (at_ .zppDispatch []) (.rx 0b00000001) = .row .zppCmdReadCv ∧
    decode (at_ .zppDispatch []) (.rx 0b00000010) = .row .zppCmdWriteCv ∧
    decode (at_ .zppDispatch []) (.rx 0b00000011) = .row .zppCmdFlashErase ∧
    decode (at_ .zppDispatch []) (.rx 0b00000100) = .row .zppCmdDecoderId ∧
    decode (at_ .zppDispatch []) (.rx 0b00000101) = .row .zppCmdFlashWrite ∧
    decode (at_ .zppDispatch []) (.rx 0b00000110) = .row .zppCmdWriteCvExt ∧
    decode (at_ .zppDispatch []) (.rx 0b00000111) = .row .zppCmdCrcXorQuery ∧
    decode (at_ .zppDispatch []) (.rx 0b00001000) = .row (.zppCmdUnknown 0x08) ∧
    decode (at_ .zppDispatch []) (.rx 0b10000001) = .row (.zppCmdUnknown 0x81) := by decide

theorem test_decode_read_and_write_cv :
    decode (at_ .zppReadCv [1]) (.rx 0b00000000) = .row (.zppReadCvFrameByte 0x00) ∧
    decode (at_ .zppReadCv [1, 0]) (.rx 0b00000101) = .row (.zppReadCvFrameEnd 0x05) ∧
    decode (at_ .zppReadCv [1, 0, 5]) (.rx 0b00000000) = .row (.zppReadCvProbe 0x00) ∧
    decode (at_ .zppReadCv [1, 0, 5, 0, 0, 0, 0, 0]) (.rx 0b00000000) = .row (.zppReadCvProbe 0x00) ∧
    decode (at_ .zppReadCv [1, 0, 5, 0, 0, 0, 0, 0, 0]) (.rx 0b01011010) = .row (.zppReadCvLast 0x5A) ∧
    decode (at_ .zppWriteCv [2, 0x55, 0]) (.rx 0b00000001) = .row (.zppWriteCvByte 0x01) ∧
    decode (at_ .zppWriteCv [2, 0x55, 0, 1]) (.rx 0b00000011) = .row (.zppWriteCvEnd 0x03) ∧
    decode (at_ .zppWriteCv [6, 0x55, 0, 1]) (.rx 0b00000010) = .row (.zppWriteCvByte 0x02) ∧
    decode (at_ .zppWriteCv [6, 0x55, 0, 1, 2]) (.rx 0b00000011) = .row (.zppWriteCvEnd 0x03) := by decide

theorem test_decode_flash_and_probes :
    decode (at_ .zppFlashErase [3]) (.rx 0b01010101) = .row (.zppEraseByte 0x55) ∧
    decode (at_ .zppFlashErase [3, 0x55, 0xFF]) (.rx 0b11111111) = .row .zppEraseEndOk ∧
    decode (at_ .zppFlashErase [3, 0x55, 0xFF]) (.rx 0b00000000) = .row (.zppEraseEndBad 0x00) ∧
    decode (at_ .zppFlashWrite [5, 1, 2, 3, 4, 5, 6, 7, 8, 9]) (.rx 0b00001010) = .row (.zppFlashWriteByte 0x0A) ∧
    decode (at_ .zppFlashWrite [5, 1, 2, 3, 4, 5, 6, 7, 8, 9, 10]) (.rx 0b00001011) = .row (.zppFlashWriteEnd 0x0B) ∧
    decode (at_ .zppDecoderId [4, 0, 0, 0, 0, 0]) (.rx 0b00000000) = .row (.zppDecoderIdByte 0x00) ∧
    decode (at_ .zppDecoderId [4, 0, 0, 0, 0, 0, 0]) (.rx 0b00000000) = .row (.zppDecoderIdLast 0x00) ∧
    decode (at_ .zppCrcOrXorQuery [7, 0, 0, 0, 0, 0]) (.rx 0b00010001) = .row (.zppCrcXorByte 0x11) ∧
    decode (at_ .zppCrcOrXorQuery [7, 0, 0, 0, 0, 0, 0]) (.rx 0b00010001) = .row (.zppCrcXorLast 0x11) := by decide

theorem test_decode_zsu :
    decode (at_ .zsuDecoderId []) (.rx 0b00010010) = .row (.zsuDecoderId 0x12) ∧
    decode (at_ .zsuBlockCount []) (.rx 0b00000000) = .row (.zsuBlockCount 0x00) ∧
    decode (at_ .zsuSecurityByte1 []) (.rx 0b01010101) = .row .zsuSec1Ok ∧
    decode (at_ .zsuSecurityByte1 []) (.rx 0b10101010) = .row (.zsuSec1Bad 0xAA) ∧
    decode (at_ .zsuSecurityByte2 []) (.rx 0b10101010) = .row .zsuSec2Ok ∧
    decode (at_ .zsuSecurityByte2 []) (.rx 0b01010101) = .row (.zsuSec2Bad 0x55) ∧
    decode (at_ .zsuBlocks [0, 0x12]) (.rx 0b00110100) = .row (.zsuBlockByte 0x34) ∧
    decode (at_ .zsuBlocks [0, 0x12, 0x34]) (.rx 0b00100110) = .row (.zsuBlockEnd 0x26) ∧
    decode (at_ .zsuBlocks []) .reset = .row .hostReset := by decide

/-- Beyond the bounds of R29 the decoder rejects by name. -/
theorem test_decode_no_row :
    decode (at_ .zppReadCv [1, 0, 0, 0, 0, 0, 0, 0, 0, 0]) (.rx 0) = .noRow .zppReadCv 11 ∧
    decode (at_ .zsuBlocks [0, 0, 0, 0]) (.rx 0) = .noRow .zsuBlocks 5 ∧
    refusalOf (step (fed (given .zsuBlocks 0x91 2 [0, 0, 0, 0]) 0 2)) = some .noRow := by decide

/-- A row run where the decoder does not select it is rejected by name. -/
theorem test_row_not_selected :
    refusalOf (exec .zppCmdReadCv State.reset) = some .rowNotSelected ∧
    refusalOf (exec (.zsuBlockEnd 0x26) (given .zsuBlocks 0x91 2 [0, 0x12])) = some .rowNotSelected := by decide

/-- The table words of the rows with a fixed pattern decode to those rows. -/
theorem test_decodeTableWord :
    decodeTableWord 8 0x00 = some (.preSelectZpp 0x00) ∧ decodeTableWord 8 0x80 = some (.preSelectZsu 0x80) ∧
    decodeTableWord 8 0x01 = some .zppCmdReadCv ∧ decodeTableWord 8 0x02 = some .zppCmdWriteCv ∧
    decodeTableWord 8 0x03 = some .zppCmdFlashErase ∧ decodeTableWord 8 0x04 = some .zppCmdDecoderId ∧
    decodeTableWord 8 0x05 = some .zppCmdFlashWrite ∧ decodeTableWord 8 0x06 = some .zppCmdWriteCvExt ∧
    decodeTableWord 8 0x07 = some .zppCmdCrcXorQuery ∧ decodeTableWord 8 0xFF = some .zppEraseEndOk ∧
    decodeTableWord 8 0x55 = some .zsuSec1Ok ∧ decodeTableWord 8 0xAA = some .zsuSec2Ok ∧
    decodeTableWord 0 0 = some .hostReset ∧ decodeTableWord 16 0 = none := by decide

/-- A placed word is the row the very next step from reset runs. -/
theorem test_withFetchWord :
    shown (step (State.reset.withFetchWord 8 0x01)) = some ⟨.zppReadCv, 0, 0, [0x01], none, [.rsp .none]⟩ ∧
    shown (step (State.reset.withFetchWord 8 0x80)) =
      some ⟨.zsuDecoderId, 0, 0, [], none, [.tx ⟨[0x80], .zsuDecoderId⟩, .rsp .none]⟩ ∧
    shown (step (State.reset.withFetchWord 8 0xFF)) =
      some ⟨.zppDispatch, 0, 0, [], none, [.tx ⟨[0x03, 0x55, 0xFF, 0xFF], .flashErase⟩, .rsp .none]⟩ ∧
    shown (step (State.reset.withFetchWord 8 0xAA)) =
      some ⟨.zsuSecurityByte2, 0, 0, [], none, [.tx ⟨[0xAA], .zsuSecurity2⟩, .rsp .none]⟩ ∧
    shown (step (State.reset.withFetchWord 0 0)) = some ⟨.entry, 0, 0, [], none, []⟩ := by decide

/-! ### The common phase -/

/-- M1 to M5. -/
theorem test_mapper :
    mapPulses 0 = .none ∧ mapPulses 1 = .nak ∧ mapPulses 2 = .ack ∧ mapPulses 3 = .none ∧ mapPulses 255 = .none := by decide

/-- R209, D24. -/
theorem test_port_saturates : portPulses 255 = 255 ∧ portPulses 256 = 255 ∧ portPulses 258 = 255 := by decide

/-- E1, E2. -/
theorem test_entry_skip :
    shown (step (fed State.reset 0x0D 2)) = some ⟨.entry, 0, 0, [], none, [.rsp .none]⟩ ∧
    shown (step (fed State.reset 0x55 2)) = some ⟨.entry, 0, 0, [], none, [.rsp .none]⟩ := by decide

/-- E3, E4, E10. -/
theorem test_entry_fallthrough :
    shown (step (fed State.reset 0x00 2)) = some ⟨.zppDispatch, 0, 0, [], none, [.rsp .none]⟩ ∧
    shown (step (fed State.reset 0xEF 0)) = some ⟨.preamble, 0, 0, [], none, [.tx ⟨[0xEF], .preamble⟩, .rsp .none]⟩ ∧
    shown (step (fed State.reset 0x01 2)) = some ⟨.zppReadCv, 0, 0, [0x01], none, [.rsp .none]⟩ := by decide

/-- E5. -/
theorem test_preamble_code :
    shown (step (fed (given .preamble 0 0 []) 0xBF 1)) =
      some ⟨.preamble, 0, 0, [], none, [.tx ⟨[0xBF], .preamble⟩, .rsp .nak]⟩ := by decide

/-- E6, E7. -/
theorem test_select_zpp :
    shown (step (fed (given .preamble 0 0 []) 0x44 2)) = some ⟨.zppDispatch, 0, 0, [], none, [.rsp .none]⟩ ∧
    shown (step (fed (given .preamble 0 0 []) 0x7F 2)) = some ⟨.zppDispatch, 0, 0, [], none, [.rsp .none]⟩ := by decide

/-- E8, E9. -/
theorem test_select_zsu :
    shown (step (fed (given .preamble 0 0 []) 0x80 2)) =
      some ⟨.zsuBlockCount, 0x80, 0, [], none, [.tx ⟨[0x80], .zsuDecoderId⟩, .rsp .ack]⟩ ∧
    shown (step (fed (given .preamble 0 0 []) 0xFF 1)) =
      some ⟨.zsuDecoderId, 0, 0, [], none, [.tx ⟨[0xFF], .zsuDecoderId⟩, .rsp .nak]⟩ := by decide

/-! ### The ZPP branch -/

/-- P1, P2, P3. -/
theorem test_unknown_command :
    shown (step (fed (given .zppDispatch 0 0 []) 0x00 2)) = some ⟨.zppDispatch, 0, 0, [], none, [.rsp .none]⟩ ∧
    shown (step (fed (given .zppDispatch 0 0 []) 0xBF 2)) = some ⟨.zppDispatch, 0, 0, [], none, [.rsp .none]⟩ ∧
    shown (step (fed (given .zppDispatch 0 0 []) 0x08 2)) = some ⟨.zppDispatch, 0, 0, [], none, [.rsp .none]⟩ := by decide

/-- The first steps of P4, P7, P10, P13, P8. -/
theorem test_collected_commands :
    shown (step (fed (given .zppDispatch 0 0 []) 0x01 2)) = some ⟨.zppReadCv, 0, 0, [0x01], none, [.rsp .none]⟩ ∧
    shown (step (fed (given .zppDispatch 0 0 []) 0x02 2)) = some ⟨.zppWriteCv, 0, 0, [0x02], none, [.rsp .none]⟩ ∧
    shown (step (fed (given .zppDispatch 0 0 []) 0x03 2)) = some ⟨.zppFlashErase, 0, 0, [0x03], none, [.rsp .none]⟩ ∧
    shown (step (fed (given .zppDispatch 0 0 []) 0x05 2)) = some ⟨.zppFlashWrite, 0, 0, [0x05], none, [.rsp .none]⟩ ∧
    shown (step (fed (given .zppDispatch 0 0 []) 0x06 2)) = some ⟨.zppWriteCv, 0, 0, [0x06], none, [.rsp .none]⟩ := by decide

/-- The first steps of P14 and P15. -/
theorem test_transmitted_commands :
    shown (step (fed (given .zppDispatch 0 0 []) 0x04 2)) =
      some ⟨.zppDecoderId, 0, 0, [0x04], none, [.tx ⟨[0x04], .decoderIdRead⟩, .rsp .ack]⟩ ∧
    shown (step (fed (given .zppDispatch 0 0 []) 0x07 0)) =
      some ⟨.zppCrcOrXorQuery, 0, 0, [0x07], none, [.tx ⟨[0x07], .crcXorQuery⟩, .rsp .none]⟩ := by decide

/-- The second and third steps of P4. -/
theorem test_read_cv_frame :
    shown (step (fed (given .zppReadCv 0 0 [1]) 0x00 2)) = some ⟨.zppReadCv, 0, 0, [1, 0], none, [.rsp .none]⟩ ∧
    shown (step (fed (given .zppReadCv 0 0 [1, 0]) 0x05 2)) =
      some ⟨.zppReadCv, 0, 0, [1, 0, 5], none, [.tx ⟨[1, 0, 5], .cvRead⟩, .rsp .ack]⟩ := by decide

/-- P5 (its first step), P6. -/
theorem test_read_cv_probes :
    shown (step (fed (given .zppReadCv 0 0 [1, 0, 5]) 0x00 1)) =
      some ⟨.zppReadCv, 0, 0, [1, 0, 5, 0], none, [.tx ⟨[0], .cvRead⟩, .rsp .nak]⟩ ∧
    shown (step (fed (given .zppReadCv 0 0 [1, 0, 5, 0, 0, 0, 0, 0, 0]) 0x5A 7)) =
      some ⟨.zppDispatch, 0, 0, [], none, [.tx ⟨[0x5A], .cvRead⟩, .rsp .none]⟩ := by decide

/-- P7, P8 (their last steps), P9. -/
theorem test_write_cv :
    shown (step (fed (given .zppWriteCv 0 0 [2, 0x55, 0, 1]) 0x03 2)) =
      some ⟨.zppDispatch, 0, 0, [], none, [.tx ⟨[2, 0x55, 0, 1, 3], .cvWrite⟩, .rsp .ack]⟩ ∧
    shown (step (fed (given .zppWriteCv 0 0 [6, 0x55, 0, 1, 2]) 0x03 1)) =
      some ⟨.zppDispatch, 0, 0, [], none, [.tx ⟨[6, 0x55, 0, 1, 2, 3], .cvWrite⟩, .rsp .nak]⟩ ∧
    shown (step (fed (given .zppWriteCv 0 0 [6, 0x55, 0, 1]) 0x02 2)) =
      some ⟨.zppWriteCv, 0, 0, [6, 0x55, 0, 1, 2], none, [.rsp .none]⟩ := by decide

/-- P10 (its last steps), P11, P12. -/
theorem test_erase :
    shown (step (fed (given .zppFlashErase 0 0 [3, 0x55]) 0xFF 2)) =
      some ⟨.zppFlashErase, 0, 0, [3, 0x55, 0xFF], none, [.rsp .none]⟩ ∧
    shown (step (fed (given .zppFlashErase 0 0 [3, 0x55, 0xFF]) 0xFF 2)) =
      some ⟨.zppDispatch, 0, 0, [], none, [.tx ⟨[3, 0x55, 0xFF, 0xFF], .flashErase⟩, .rsp .ack]⟩ ∧
    shown (step (fed (given .zppFlashErase 0 0 [3, 0x00, 0xFF]) 0xFF 2)) =
      some ⟨.zppDispatch, 0, 0, [], none, [.rsp .none]⟩ ∧
    shown (step (fed (given .zppFlashErase 0 0 [3, 0x55, 0xFE]) 0xFF 2)) =
      some ⟨.zppDispatch, 0, 0, [], none, [.rsp .none]⟩ := by decide

/-- P13, its last two steps. -/
theorem test_flash_write :
    shown (step (fed (given .zppFlashWrite 0 0 [5, 1, 2, 3, 4, 5, 6, 7, 8, 9]) 0x0A 2)) =
      some ⟨.zppFlashWrite, 0, 0, [5, 1, 2, 3, 4, 5, 6, 7, 8, 9, 10], none, [.rsp .none]⟩ ∧
    shown (step (fed (given .zppFlashWrite 0 0 [5, 1, 2, 3, 4, 5, 6, 7, 8, 9, 10]) 0x0B 2)) =
      some ⟨.zppDispatch, 0, 0, [], none,
        [.tx ⟨[5, 1, 2, 3, 4, 5, 6, 7, 8, 9, 10, 11], .flashWrite⟩, .rsp .ack]⟩ := by decide

/-- P14, its second and last steps. -/
theorem test_decoder_id_read :
    shown (step (fed (given .zppDecoderId 0 0 [4]) 0x00 2)) =
      some ⟨.zppDecoderId, 0, 0, [4, 0], none, [.tx ⟨[0], .decoderIdRead⟩, .rsp .ack]⟩ ∧
    shown (step (fed (given .zppDecoderId 0 0 [4, 0, 0, 0, 0, 0, 0]) 0x00 1)) =
      some ⟨.zppDispatch, 0, 0, [], none, [.tx ⟨[0], .decoderIdRead⟩, .rsp .nak]⟩ := by decide

/-- P15, its second and last steps. -/
theorem test_crc_xor_query :
    shown (step (fed (given .zppCrcOrXorQuery 0 0 [7]) 0x11 2)) =
      some ⟨.zppCrcOrXorQuery, 0, 0, [7, 0x11], none, [.tx ⟨[0x11], .crcXorQuery⟩, .rsp .ack]⟩ ∧
    shown (step (fed (given .zppCrcOrXorQuery 0 0 [7, 0x11, 0x11, 0x11, 0x11, 0x11, 0x11]) 0x11 2)) =
      some ⟨.zppDispatch, 0, 0, [], none, [.tx ⟨[0x11], .crcXorQuery⟩, .rsp .ack]⟩ := by decide

/-! ### The ZSU branch -/

/-- B1 to B13. -/
theorem test_block_count :
    blockCount Config.test 0x06 0x90 = .error .blockCountNegative ∧ blockCount Config.test 0x07 0x90 = .ok 0 ∧
    blockCount Config.test 0x08 0x90 = .ok 4 ∧ blockCount Config.test 0x10 0x90 = .ok 36 ∧
    blockCount Config.test 0xFF 0x90 = .ok 992 ∧ blockCount Config.test 0x08 0x92 = .ok 16 ∧
    blockCount Config.test 0xFF 0x92 = .ok 3968 ∧ blockCount Config.test 0x08 0x95 = .ok 18 ∧
    blockCount Config.test 0x00 0x91 = .ok 2 ∧ blockCount Config.test 0xFF 0x91 = .ok 32642 ∧
    blockCount Config.test 0x05 0x93 = .error .dataSizeZero ∧ blockCount Config.test 0xFF 0x96 = .ok 65536 ∧
    blockCount Config.test 0x00 0x97 = .ok 85 := by
  refine ⟨rfl, rfl, rfl, rfl, rfl, rfl, rfl, rfl, rfl, rfl, rfl, rfl, rfl⟩

/-- Z2, Z3. -/
theorem test_zsu_decoder_id :
    shown (step (fed (given .zsuDecoderId 0 0 []) 0x91 1)) =
      some ⟨.zsuDecoderId, 0, 0, [], none, [.tx ⟨[0x91], .zsuDecoderId⟩, .rsp .nak]⟩ ∧
    shown (step (fed (given .zsuDecoderId 0 0 []) 0x12 2)) =
      some ⟨.zsuBlockCount, 0x12, 0, [], none, [.tx ⟨[0x12], .zsuDecoderId⟩, .rsp .ack]⟩ := by decide

/-- Z4, Z5. -/
theorem test_zsu_block_count :
    shown (step (fed (given .zsuBlockCount 0x91 0 []) 0x00 1)) =
      some ⟨.zsuSecurityByte1, 0x91, 2, [], none, [.tx ⟨[0x00], .zsuBlockCount⟩, .rsp .nak]⟩ ∧
    shown (step (fed (given .zsuBlockCount 0x91 0 []) 0x00 2)) =
      some ⟨.zsuBlockCount, 0x91, 0, [], none, [.tx ⟨[0x00], .zsuBlockCount⟩, .rsp .ack]⟩ := by decide

/-- Z6, and step 9 of program P3. -/
theorem test_zsu_block_count_faults :
    shown (step (fed (given .zsuBlockCount 0x90 0 []) 0x06 1)) =
      some ⟨.zsuBlockCount, 0x90, 0, [], some .blockCountNegative, [.tx ⟨[0x06], .zsuBlockCount⟩]⟩ ∧
    shown (step (fed (given .zsuBlockCount 0x93 0 []) 0x05 1)) =
      some ⟨.zsuBlockCount, 0x93, 0, [], some .dataSizeZero, [.tx ⟨[0x05], .zsuBlockCount⟩]⟩ := by decide

/-- Z7, Z8, Z11. -/
theorem test_zsu_security_ok :
    shown (step (fed (given .zsuSecurityByte1 0x91 2 []) 0x55 1)) =
      some ⟨.zsuSecurityByte2, 0x91, 2, [], none, [.tx ⟨[0x55], .zsuSecurity1⟩, .rsp .nak]⟩ ∧
    shown (step (fed (given .zsuSecurityByte1 0x91 2 []) 0x55 2)) =
      some ⟨.zsuSecurityByte1, 0x91, 2, [], none, [.tx ⟨[0x55], .zsuSecurity1⟩, .rsp .ack]⟩ ∧
    shown (step (fed (given .zsuSecurityByte2 0x91 2 []) 0xAA 1)) =
      some ⟨.zsuBlocks, 0x91, 2, [], none, [.tx ⟨[0xAA], .zsuSecurity2⟩, .rsp .nak]⟩ := by decide

/-- Z9, Z10. -/
theorem test_zsu_security_bad :
    shown (step (fed (given .zsuSecurityByte1 0x91 2 []) 0xAA 2)) = some ⟨.entry, 0, 0, [], none, [.rsp .none]⟩ ∧
    shown (step (fed (given .zsuSecurityByte2 0x91 2 []) 0x55 2)) = some ⟨.entry, 0, 0, [], none, [.rsp .none]⟩ := by decide

/-- Z12 (its third and last steps), Z17. -/
theorem test_zsu_block_byte :
    shown (step (fed (given .zsuBlocks 0x91 2 [0, 0x12]) 0x34 2)) =
      some ⟨.zsuBlocks, 0x91, 2, [0, 0x12, 0x34], none, [.rsp .none]⟩ ∧
    shown (step (fed (given .zsuBlocks 0x94 16 [0, 0, 0, 0, 0, 0, 0, 0, 0, 0, 0, 0]) 0x00 2)) =
      some ⟨.zsuBlocks, 0x94, 16, [0, 0, 0, 0, 0, 0, 0, 0, 0, 0, 0, 0], some .packetOverflow, []⟩ := by decide

/-- Z12 (its last step), Z13, Z14, Z15. -/
theorem test_zsu_block_end :
    shown (step (fed (given .zsuBlocks 0x91 2 [0, 0x12, 0x34]) 0x26 2)) =
      some ⟨.zsuBlocks, 0x91, 1, [], none, [.tx ⟨[0, 0x12, 0x34, 0x26], .zsuBlock⟩, .rsp .ack]⟩ ∧
    shown (step (fed (given .zsuBlocks 0x91 1 [1, 0xAB, 0xCD]) 0x66 1)) =
      some ⟨.zsuBlocks, 0x91, 1, [], none, [.tx ⟨[1, 0xAB, 0xCD, 0x66], .zsuBlock⟩, .rsp .nak]⟩ ∧
    shown (step (fed (given .zsuBlocks 0x91 1 [1, 0xAB, 0xCD]) 0x66 0)) =
      some ⟨.zsuBlocks, 0x91, 1, [], none, [.tx ⟨[1, 0xAB, 0xCD, 0x66], .zsuBlock⟩, .rsp .none]⟩ ∧
    shown (step (fed (given .zsuBlocks 0x91 1 [1, 0xAB, 0xCD]) 0x66 2)) =
      some ⟨.entry, 0, 0, [], none, [.tx ⟨[1, 0xAB, 0xCD, 0x66], .zsuBlock⟩, .rsp .ack]⟩ := by decide

/-- Z16, Z18. -/
theorem test_zsu_block_end_corners :
    shown (step (fed (given .zsuBlocks 0x91 0 [1, 0xAB, 0xCD]) 0x66 2)) =
      some ⟨.zsuBlocks, 0x91, 0, [], some .blockCountUnderflow, [.tx ⟨[1, 0xAB, 0xCD, 0x66], .zsuBlock⟩]⟩ ∧
    shown (step (fed (given .zsuBlocks 0x91 2 [0, 0x12, 0x34]) 0x00 2)) =
      some ⟨.zsuBlocks, 0x91, 1, [], none, [.tx ⟨[0, 0x12, 0x34, 0x00], .zsuBlock⟩, .rsp .ack]⟩ := by decide

/-- The checksums of program P1 and of Z18. -/
theorem test_xor_ok :
    xorOk 2 [0x00, 0x12, 0x34, 0x26] = true ∧ xorOk 2 [0x01, 0xAB, 0xCD, 0x66] = true ∧
    xorOk 2 [0x00, 0x12, 0x34, 0x00] = false := by decide

/-! ### Faults and resets -/

/-- F1, F2. -/
theorem test_stopped_engine :
    faultOf (step { fed State.reset 0x00 2 with fault := some .dataSizeZero }) = some (.engineStopped .dataSizeZero) ∧
    faultOf (step { State.reset with env := [.reset], fault := some .dataSizeZero }) =
      some (.engineStopped .dataSizeZero) := by decide

/-- F3, with storage that comes up with something in it. -/
theorem test_power_on :
    shown (step { given .zsuBlocks 0x94 16 [1, 2, 3] with fault := some .packetOverflow, env := [.por [7, 8]] }) =
      some ⟨.entry, 0, 0, [], none, []⟩ := by decide

/-- F4, P16. -/
theorem test_host_reset :
    shown (step { State.reset with env := [.reset] }) = some ⟨.entry, 0, 0, [], none, []⟩ ∧
    shown (step { given .zppReadCv 0 0 [1, 0] with env := [.reset] }) = some ⟨.entry, 0, 0, [], none, []⟩ := by decide

/-- I8: the request stays on the port, and the next byte is no step. -/
theorem test_silent_transmitter :
    shown (step { State.reset with env := [.rx 0xBF none] }) = some ⟨.preamble, 0, 0, [], none, [.tx ⟨[0xBF], .preamble⟩]⟩ ∧
    faultOf (step { fed State.reset 0x00 2 with tx := some ⟨[0xBF], .preamble⟩ }) = some .transmitterSilent := by decide

/-- The port codes of R20, R65, R66 and R202 at the ends of the tables and where a branch begins or ends in them. -/
theorem test_codes :
    stCode .entry = 0 ∧ stCode .preamble = 1 ∧ stCode .zppDispatch = 2 ∧ stCode .zppFlashWrite = 6 ∧
    stCode .zppCrcOrXorQuery = 8 ∧ stCode .zsuDecoderId = 9 ∧ stCode .zsuBlocks = 13 ∧ opCode .preamble = 0 ∧
    opCode .cvWrite = 2 ∧ opCode .flashWrite = 4 ∧ opCode .crcXorQuery = 6 ∧ opCode .zsuDecoderId = 7 ∧
    opCode .zsuSecurity2 = 10 ∧ opCode .zsuBlock = 11 ∧ State.reset.faultOut = 0 ∧
    { State.reset with fault := some .dataSizeZero }.faultOut = 2 ∧
    { State.reset with fault := some .blockCountNegative }.faultOut = 3 ∧
    Response.isSome .none = false ∧ Response.code 0 .ack = 0x1C ∧ Response.code 0 .nak = 0xFC := by decide

/-- A store, then a store of what an unlisted index reads as: canonical both times. -/
theorem test_memory_canonical :
    (Memory.write [] 3 0x12).wf ∧ Memory.write [] 3 0x12 = [(3, 0x12)] ∧
    Memory.write (Memory.write [] 3 0x12) 3 0x00 = [] ∧
    Memory.write (Memory.write [] 3 0x12) 1 0x34 = [(1, 0x34), (3, 0x12)] := by decide

/-! ### The hypotheses of the statements are met

One theorem per statement with hypotheses, named after it; each clause has its own state, at the ends of its range. -/

theorem witness_PortCodesAreThoseOfTheTables :
    { State.reset with fault := some .blockCountUnderflow }.fault = some .blockCountUnderflow := rfl

theorem witness_StepRunsTheDecodedRow :
    (fed State.reset 0xBF 2).rxReady = true ∧ (fed State.reset 0xBF 2).env = .rx 0xBF (some 2) :: [] ∧
    decode (fed State.reset 0xBF 2).ctx (.rx 0xBF) = .row (.entryFallthrough 0xBF) ∧
    { State.reset with env := [.reset] }.rxReady = true ∧ { State.reset with env := [.reset] }.env = .reset :: [] := by decide

theorem witness_IdleEngineHoldsEveryRegister : State.reset.rxReady = true ∧ State.reset.env = [] := by decide

theorem witness_StoppedEngineTakesNoStep :
    { State.reset with fault := some .dataSizeZero }.fault = some .dataSizeZero ∧
    (∀ contents rest, { State.reset with fault := some .dataSizeZero }.env ≠ .por contents :: rest) :=
  ⟨rfl, fun _ _ h => by cases h⟩

theorem witness_WaitingEngineTakesNoStep :
    { State.reset with tx := some ⟨[0xBF], .preamble⟩ }.fault = none ∧
    { State.reset with tx := some ⟨[0xBF], .preamble⟩ }.tx = some ⟨[0xBF], .preamble⟩ ∧
    (∀ contents rest, { State.reset with tx := some ⟨[0xBF], .preamble⟩ }.env ≠ .por contents :: rest) :=
  ⟨rfl, rfl, fun _ _ h => by cases h⟩

theorem witness_PowerOnResetFromEveryState :
    { given .zsuBlocks 0x94 16 [1] with fault := some .packetOverflow, env := [.por [7]] }.env = .por [7] :: [] := rfl

theorem witness_DecodeOfEncodeIsTheRow :
    WellFormed (at_ .zppReadCv [1, 0, 0, 0, 0, 0, 0, 0, 0]) (.zppReadCvLast 0xFF) = true ∧
    WellFormed (at_ .zppFlashErase [3, 0x55, 0xFF]) .zppEraseEndOk = true ∧
    WellFormed (at_ .zsuBlocks [0, 0x12, 0x34]) (.zsuBlockEnd 0x26) = true := by decide

theorem witness_DecodedRowIsWellFormed :
    decode (at_ .preamble []) (.rx 0x80) = .row (.preSelectZsu 0x80) ∧
    decode (at_ .preamble []) (.rx 0x7F) = .row (.preSelectZpp 0x7F) := by decide

theorem witness_RowsCoverEveryByteWithinTheFrameBounds : State.reset.cfg.WellFormed ∧ State.reset.Framed :=
  ⟨by decide, rfl, rfl, rfl⟩

theorem witness_BannerByteIsSkipped :
    State.reset.rxReady = true ∧ State.reset.st = .entry ∧ (0x0D : Byte) ∈ State.reset.cfg.banner := by decide

theorem witness_HandedOnByteRunsTheReceivingHandler :
    State.reset.rxReady = true ∧ State.reset.st = .entry ∧ (0xBF : Byte) ∉ State.reset.cfg.banner ∧
    decode { State.reset with st := .preamble }.ctx (.rx 0xBF) = .row (.prePreamble 0xBF) ∧
    (given .preamble 0 0 []).rxReady = true ∧ (given .preamble 0 0 []).st = .preamble ∧
    (0x7F : Byte) ≠ (given .preamble 0 0 []).cfg.pre0 ∧ (0x7F : Byte) ≠ (given .preamble 0 0 []).cfg.pre1 ∧
    (0x7F : Byte) < 0x80 ∧
    decode { given .preamble 0 0 [] with st := .zppDispatch }.ctx (.rx 0x7F) = .row (.zppCmdUnknown 0x7F) ∧
    (0x80 : Byte) ≠ (given .preamble 0 0 []).cfg.pre0 ∧ (0x80 : Byte) ≠ (given .preamble 0 0 []).cfg.pre1 ∧
    (0x80 : Byte) ≤ 0x80 := by decide

theorem witness_SelectingRowsComplete :
    (answered State.reset 2).rxReady = true ∧ (answered State.reset 2).cfg.WellFormed ∧
    (answered State.reset 2).txAns = some 2 ∧ (answered State.reset 2).st = .entry ∧
    (0x00 : Byte) ∉ (answered State.reset 2).cfg.banner ∧ (answered (given .preamble 0 0 []) 2).rxReady = true ∧
    (answered (given .preamble 0 0 []) 2).cfg.WellFormed ∧ (answered (given .preamble 0 0 []) 2).txAns = some 2 ∧
    (answered (given .preamble 0 0 []) 2).st = .preamble ∧
    (∀ b ∈ ([0x00, 0x7F, 0x80, 0xFF] : List Byte),
      b ≠ (answered (given .preamble 0 0 []) 2).cfg.pre0 ∧ b ≠ (answered (given .preamble 0 0 []) 2).cfg.pre1) ∧
    (0x7F : Byte) < 0x80 ∧ (0x80 : Byte) ≤ 0x80 := by decide

theorem witness_PreambleCodeIsTransmittedAlone :
    (answered (given .preamble 0 0 []) 1).rxReady = true ∧ (answered (given .preamble 0 0 []) 1).txAns = some 1 ∧
    (0xBF : Byte) = (answered (given .preamble 0 0 []) 1).cfg.pre0 ∧ (answered (given .preamble 0 0 []) 1).st = .preamble ∧
    (answered State.reset 0).rxReady = true ∧ (answered State.reset 0).txAns = some 0 ∧
    (0xEF : Byte) = (answered State.reset 0).cfg.pre1 ∧ (answered State.reset 0).st = .entry ∧
    (0xEF : Byte) ∉ (answered State.reset 0).cfg.banner := by decide

theorem witness_UnknownByteAfterPreambleStallsInDispatch :
    (given .preamble 0 0 []).rxReady = true ∧ (given .preamble 0 0 []).st = .preamble ∧
    (∀ b ∈ ([0x00, 0x08, 0x7F] : List Byte),
      b ≠ (given .preamble 0 0 []).cfg.pre0 ∧ b ≠ (given .preamble 0 0 []).cfg.pre1 ∧ b < 0x80 ∧
        ¬ (0x01 ≤ b ∧ b ≤ 0x07)) := by decide

theorem witness_CollectedCommandStartsItsFrame :
    (given .zppDispatch 0 0 []).rxReady = true ∧ (given .zppDispatch 0 0 []).st = .zppDispatch ∧
    10 ≤ (given .zppDispatch 0 0 []).cfg.maxFrame := by decide

theorem witness_TransmittedCommandStartsItsProbes :
    (answered (given .zppDispatch 0 0 []) 2).rxReady = true ∧ (answered (given .zppDispatch 0 0 []) 2).st = .zppDispatch ∧
    10 ≤ (answered (given .zppDispatch 0 0 []) 2).cfg.maxFrame ∧
    (answered (given .zppDispatch 0 0 []) 2).txAns = some 2 := by decide

theorem witness_UnknownCommandStalls :
    (given .zppDispatch 0 0 []).rxReady = true ∧ (given .zppDispatch 0 0 []).st = .zppDispatch ∧
    (∀ b ∈ ([0x00, 0x08, 0xFF] : List Byte), ¬ (0x01 ≤ b ∧ b ≤ 0x07)) := by decide

/-- A ready engine in a given state with room for the byte. -/
def Room (s : State) (x : St) : Prop := s.rxReady = true ∧ s.pktLen < s.cfg.maxFrame ∧ s.st = x

/-- The same, with an answering transmitter. -/
def RoomAnswered (s : State) (x : St) (p : Nat) : Prop := Room s x ∧ s.txAns = some p

theorem room {x : St} {pkt : List Byte} {did : Byte} {bc : BitVec 32} (h : pkt.length < 12) : Room (given x did bc pkt) x :=
  ⟨rfl, h, rfl⟩

theorem roomAnswered {x : St} {pkt : List Byte} {p : Nat} {did : Byte} {bc : BitVec 32} (h : pkt.length < 12) :
    RoomAnswered (answered (given x did bc pkt) p) x p :=
  ⟨⟨rfl, h, rfl⟩, rfl⟩

theorem witness_IncompleteZppFrameCollectsTheByte :
    Room (given .zppReadCv 0 0 [1]) .zppReadCv ∧ (given .zppReadCv 0 0 [1]).pktLen + 1 ≤ 2 ∧
    Room (given .zppWriteCv 0 0 [2, 0x55, 0]) .zppWriteCv ∧
    (given .zppWriteCv 0 0 [2, 0x55, 0]).pktLen + 1 <
      (if ((given .zppWriteCv 0 0 [2, 0x55, 0]).pkt ++ [1])[0]? = some 0x02 then 5 else 6) ∧
    Room (given .zppWriteCv 0 0 [6, 0x55, 0, 1]) .zppWriteCv ∧
    (given .zppWriteCv 0 0 [6, 0x55, 0, 1]).pktLen + 1 <
      (if ((given .zppWriteCv 0 0 [6, 0x55, 0, 1]).pkt ++ [2])[0]? = some 0x02 then 5 else 6) ∧
    Room (given .zppFlashErase 0 0 [3, 0x55]) .zppFlashErase ∧ (given .zppFlashErase 0 0 [3, 0x55]).pktLen + 1 ≤ 3 ∧
    Room (given .zppFlashWrite 0 0 [5, 1, 2, 3, 4, 5, 6, 7, 8, 9]) .zppFlashWrite ∧
    (given .zppFlashWrite 0 0 [5, 1, 2, 3, 4, 5, 6, 7, 8, 9]).pktLen + 1 < Config.test.maxFrame :=
  ⟨room (by decide), by decide, room (by decide), by decide, room (by decide), by decide, room (by decide), by decide,
    room (by decide), by decide⟩

theorem witness_ReadCvFrameIsTransmittedWhole :
    RoomAnswered (answered (given .zppReadCv 0 0 [1, 0]) 2) .zppReadCv 2 ∧
    (answered (given .zppReadCv 0 0 [1, 0]) 2).pktLen + 1 = 3 :=
  ⟨roomAnswered (by decide), rfl⟩

theorem witness_ProbeIsTransmittedAlone :
    RoomAnswered (answered (given .zppReadCv 0 0 [1, 0, 5]) 1) .zppReadCv 1 ∧
    4 ≤ (answered (given .zppReadCv 0 0 [1, 0, 5]) 1).pktLen + 1 ∧
    RoomAnswered (answered (given .zppReadCv 0 0 [1, 0, 5, 0, 0, 0, 0, 0]) 1) .zppReadCv 1 ∧
    (answered (given .zppReadCv 0 0 [1, 0, 5, 0, 0, 0, 0, 0]) 1).pktLen + 1 ≤ 9 ∧
    RoomAnswered (answered (given .zppDecoderId 0 0 [4, 0, 0, 0, 0, 0]) 2) .zppDecoderId 2 ∧
    (answered (given .zppDecoderId 0 0 [4, 0, 0, 0, 0, 0]) 2).pktLen + 1 ≤ 7 ∧
    RoomAnswered (answered (given .zppCrcOrXorQuery 0 0 [7, 0, 0, 0, 0, 0]) 0) .zppCrcOrXorQuery 0 ∧
    (answered (given .zppCrcOrXorQuery 0 0 [7, 0, 0, 0, 0, 0]) 0).pktLen + 1 ≤ 7 :=
  ⟨roomAnswered (by decide), by decide, roomAnswered (by decide), by decide, roomAnswered (by decide), by decide,
    roomAnswered (by decide), by decide⟩

theorem witness_LastProbeReturnsToDispatch :
    RoomAnswered (answered (given .zppReadCv 0 0 [1, 0, 5, 0, 0, 0, 0, 0, 0]) 7) .zppReadCv 7 ∧
    (answered (given .zppReadCv 0 0 [1, 0, 5, 0, 0, 0, 0, 0, 0]) 7).pktLen + 1 = 10 ∧
    RoomAnswered (answered (given .zppDecoderId 0 0 [4, 0, 0, 0, 0, 0, 0]) 1) .zppDecoderId 1 ∧
    (answered (given .zppDecoderId 0 0 [4, 0, 0, 0, 0, 0, 0]) 1).pktLen + 1 = 8 ∧
    RoomAnswered (answered (given .zppCrcOrXorQuery 0 0 [7, 0, 0, 0, 0, 0, 0]) 2) .zppCrcOrXorQuery 2 ∧
    (answered (given .zppCrcOrXorQuery 0 0 [7, 0, 0, 0, 0, 0, 0]) 2).pktLen + 1 = 8 :=
  ⟨roomAnswered (by decide), rfl, roomAnswered (by decide), rfl, roomAnswered (by decide), rfl⟩

theorem witness_CompletedZppFrameIsTransmittedWhole :
    RoomAnswered (answered (given .zppWriteCv 0 0 [2, 0x55, 0, 1]) 2) .zppWriteCv 2 ∧
    (answered (given .zppWriteCv 0 0 [2, 0x55, 0, 1]) 2).pktLen + 1 =
      (if ((answered (given .zppWriteCv 0 0 [2, 0x55, 0, 1]) 2).pkt ++ [3])[0]? = some 0x02 then 5 else 6) ∧
    RoomAnswered (answered (given .zppWriteCv 0 0 [6, 0x55, 0, 1, 2]) 2) .zppWriteCv 2 ∧
    (answered (given .zppWriteCv 0 0 [6, 0x55, 0, 1, 2]) 2).pktLen + 1 =
      (if ((answered (given .zppWriteCv 0 0 [6, 0x55, 0, 1, 2]) 2).pkt ++ [3])[0]? = some 0x02 then 5 else 6) ∧
    RoomAnswered (answered (given .zppFlashErase 0 0 [3, 0x55, 0xFF]) 2) .zppFlashErase 2 ∧
    (answered (given .zppFlashErase 0 0 [3, 0x55, 0xFF]) 2).pktLen + 1 = 4 ∧
    (answered (given .zppFlashErase 0 0 [3, 0x55, 0xFF]) 2).pkt[1]? = some 0x55 ∧
    (answered (given .zppFlashErase 0 0 [3, 0x55, 0xFF]) 2).pkt[2]? = some 0xFF ∧
    RoomAnswered (answered (given .zppFlashWrite 0 0 [5, 1, 2, 3, 4, 5, 6, 7, 8, 9, 10]) 2) .zppFlashWrite 2 ∧
    (answered (given .zppFlashWrite 0 0 [5, 1, 2, 3, 4, 5, 6, 7, 8, 9, 10]) 2).pktLen + 1 = Config.test.maxFrame :=
  ⟨roomAnswered (by decide), by decide, roomAnswered (by decide), by decide, roomAnswered (by decide), by decide, by decide,
    by decide, roomAnswered (by decide), by decide⟩

/-- Each of the three security bytes wrong alone. -/
theorem witness_WrongEraseSecurityAbandonsTheFrame :
    Room (given .zppFlashErase 0 0 [3, 0x55, 0xFF]) .zppFlashErase ∧
    (given .zppFlashErase 0 0 [3, 0x55, 0xFF]).pktLen + 1 = 4 ∧
    ¬ ((given .zppFlashErase 0 0 [3, 0x55, 0xFF]).pkt[1]? = some 0x55 ∧
      (given .zppFlashErase 0 0 [3, 0x55, 0xFF]).pkt[2]? = some 0xFF ∧ (0x00 : Byte) = 0xFF) ∧
    Room (given .zppFlashErase 0 0 [3, 0x54, 0xFF]) .zppFlashErase ∧
    ¬ ((given .zppFlashErase 0 0 [3, 0x54, 0xFF]).pkt[1]? = some 0x55 ∧
      (given .zppFlashErase 0 0 [3, 0x54, 0xFF]).pkt[2]? = some 0xFF ∧ (0xFF : Byte) = 0xFF) ∧
    Room (given .zppFlashErase 0 0 [3, 0x55, 0xFE]) .zppFlashErase ∧
    ¬ ((given .zppFlashErase 0 0 [3, 0x55, 0xFE]).pkt[1]? = some 0x55 ∧
      (given .zppFlashErase 0 0 [3, 0x55, 0xFE]).pkt[2]? = some 0xFF ∧ (0xFF : Byte) = 0xFF) :=
  ⟨room (by decide), by decide, by decide, room (by decide), by decide, room (by decide), by decide⟩

theorem witness_DecoderIdIsConfirmedByTwoPulses :
    RoomAnswered (answered (given .zsuDecoderId 0 0 []) 2) .zsuDecoderId 2 ∧
    RoomAnswered (answered (given .zsuDecoderId 0 0 []) 1) .zsuDecoderId 1 :=
  ⟨roomAnswered (by decide), roomAnswered (by decide)⟩

theorem witness_SelectingByteIsTheFirstDecoderId :
    RoomAnswered (answered (given .preamble 0 0 []) 2) .preamble 2 ∧ (0x80 : Byte) ≠ Config.test.pre0 ∧
    (0x80 : Byte) ≠ Config.test.pre1 ∧ (0x80 : Byte) ≤ 0x80 ∧ (0x80 : Byte) ≤ 0xFF :=
  ⟨roomAnswered (by decide), by decide, by decide, by decide, by decide⟩

theorem witness_BlockCountIsTheExactFormula :
    Config.test.ds 0x93 = 0 ∧ Config.test.ds 0x90 ≠ 0 ∧ ((0x06 : Byte).toNat + 1) * 256 < Config.test.bl 0x90 ∧
    Config.test.ds 0x90 ≠ 32 ∧ Config.test.bl 0x90 ≤ ((0x07 : Byte).toNat + 1) * 256 ∧ Config.test.ds 0x95 = 32 ∧
    Config.test.bl 0x95 ≤ ((0x08 : Byte).toNat + 1) * 256 ∧ blockCount Config.test 0xFF 0x96 = .ok 65536 :=
  ⟨by decide, by decide, by decide, by decide, by decide, by decide, by decide, rfl⟩

theorem witness_BlockCountIsConfirmedByOnePulse :
    RoomAnswered (answered (given .zsuBlockCount 0x91 0 []) 1) .zsuBlockCount 1 ∧ blockCount Config.test 0x00 0x91 = .ok 2 ∧
    RoomAnswered (answered (given .zsuBlockCount 0x90 0 []) 1) .zsuBlockCount 1 ∧
    blockCount Config.test 0x06 0x90 = .error .blockCountNegative ∧
    RoomAnswered (answered (given .zsuBlockCount 0x91 0 []) 2) .zsuBlockCount 2 ∧ (2 : Nat) ≠ 1 :=
  ⟨roomAnswered (by decide), rfl, roomAnswered (by decide), rfl, roomAnswered (by decide), by decide⟩

theorem witness_UncomputableBlockCountStopsTheEngine :
    RoomAnswered (answered (given .zsuBlockCount 0x93 0 []) 1) .zsuBlockCount 1 ∧ Config.test.ds 0x93 = 0 ∧
    RoomAnswered (answered (given .zsuBlockCount 0x90 0 []) 1) .zsuBlockCount 1 ∧ Config.test.ds 0x90 ≠ 0 ∧
    ((0x06 : Byte).toNat + 1) * 256 < Config.test.bl 0x90 :=
  ⟨roomAnswered (by decide), by decide, roomAnswered (by decide), by decide, by decide⟩

theorem witness_SecurityByteIsConfirmedByOnePulse :
    RoomAnswered (answered (given .zsuSecurityByte1 0x91 2 []) 1) .zsuSecurityByte1 1 ∧
    RoomAnswered (answered (given .zsuSecurityByte2 0x91 2 []) 2) .zsuSecurityByte2 2 :=
  ⟨roomAnswered (by decide), roomAnswered (by decide)⟩

theorem witness_WrongSecurityByteResetsTheSession :
    Room (given .zsuSecurityByte1 0x91 2 []) .zsuSecurityByte1 ∧ (0xAA : Byte) ≠ 0x55 ∧
    Room (given .zsuSecurityByte2 0x91 2 []) .zsuSecurityByte2 ∧ (0x55 : Byte) ≠ 0xAA :=
  ⟨room (by decide), by decide, room (by decide), by decide⟩

theorem witness_IncompleteBlockCollectsTheByte :
    Room (given .zsuBlocks 0x91 2 [0, 0x12]) .zsuBlocks ∧
    (given .zsuBlocks 0x91 2 [0, 0x12]).pktLen + 1 < (given .zsuBlocks 0x91 2 [0, 0x12]).cfg.ds 0x91 + 2 ∧
    (given .zsuBlocks 0x94 16 [0, 0, 0, 0, 0, 0, 0, 0, 0, 0, 0, 0]).rxReady = true ∧
    (given .zsuBlocks 0x94 16 [0, 0, 0, 0, 0, 0, 0, 0, 0, 0, 0, 0]).pktLen = Config.test.maxFrame ∧
    (given .zsuBlocks 0x94 16 [0, 0, 0, 0, 0, 0, 0, 0, 0, 0, 0, 0]).pktLen + 1 < Config.test.ds 0x94 + 2 :=
  ⟨room (by decide), by decide, rfl, rfl, by decide⟩

/-- A full packet one byte short of a frame: every decoder's data size is eleven. -/
def elevenByteBlocks : State :=
  { given .zsuBlocks 0x20 1 [0, 0, 0, 0, 0, 0, 0, 0, 0, 0, 0, 0] with cfg := { Config.test with dataSize := ⟨[], 11⟩ } }

/-- Z17, and a frame of one byte more than the buffer. -/
theorem witness_AppendAtCapacityStopsTheEngine :
    (given .zsuBlocks 0x94 16 [0, 0, 0, 0, 0, 0, 0, 0, 0, 0, 0, 0]).rxReady = true ∧
    (given .zsuBlocks 0x94 16 [0, 0, 0, 0, 0, 0, 0, 0, 0, 0, 0, 0]).pktLen = Config.test.maxFrame ∧
    (given .zsuBlocks 0x94 16 [0, 0, 0, 0, 0, 0, 0, 0, 0, 0, 0, 0]).pktLen + 1 < Config.test.ds 0x94 + 2 ∧
    elevenByteBlocks.rxReady = true ∧ elevenByteBlocks.st = .zsuBlocks ∧
    elevenByteBlocks.pktLen = elevenByteBlocks.cfg.maxFrame ∧
    elevenByteBlocks.pktLen + 1 = elevenByteBlocks.cfg.ds elevenByteBlocks.did + 2 := by decide

/-- One state for each of the four results. -/
theorem witness_CompletedBlockFollowsThePulseCount :
    RoomAnswered (answered (given .zsuBlocks 0x91 1 [1, 0xAB, 0xCD]) 1) .zsuBlocks 1 ∧
    (answered (given .zsuBlocks 0x91 1 [1, 0xAB, 0xCD]) 1).pktLen + 1 = Config.test.ds 0x91 + 2 ∧ (1 : Nat) ≠ 2 ∧
    RoomAnswered (answered (given .zsuBlocks 0x91 0 [1, 0xAB, 0xCD]) 2) .zsuBlocks 2 ∧
    (answered (given .zsuBlocks 0x91 0 [1, 0xAB, 0xCD]) 2).pktLen + 1 = Config.test.ds 0x91 + 2 ∧
    (answered (given .zsuBlocks 0x91 0 [1, 0xAB, 0xCD]) 2).bc = 0 ∧
    RoomAnswered (answered (given .zsuBlocks 0x91 1 [0, 0x12, 0x34]) 2) .zsuBlocks 2 ∧
    (answered (given .zsuBlocks 0x91 1 [0, 0x12, 0x34]) 2).bc = 1 ∧
    RoomAnswered (answered (given .zsuBlocks 0x91 2 [0, 0x12, 0x34]) 2) .zsuBlocks 2 ∧
    (answered (given .zsuBlocks 0x91 2 [0, 0x12, 0x34]) 2).pktLen + 1 = Config.test.ds 0x91 + 2 ∧
    (answered (given .zsuBlocks 0x91 2 [0, 0x12, 0x34]) 2).bc ≠ 0 :=
  ⟨roomAnswered (by decide), by decide, by decide, roomAnswered (by decide), by decide, rfl, roomAnswered (by decide), rfl,
    roomAnswered (by decide), by decide, by decide⟩

theorem witness_HostResetClearsTheSession : (given .zsuBlocks 0x91 2 [0, 0x12]).rxReady = true := rfl

theorem witness_HostResetIsIdempotent : (given .zppReadCv 0 0 [1, 0]).rxReady = true := rfl

/-- A ready engine with room for the byte, and no answer to come. -/
def RoomSilent (s : State) (x : St) : Prop := Room s x ∧ s.txAns = none

theorem roomSilent {x : St} {pkt : List Byte} {did : Byte} {bc : BitVec 32} (h : pkt.length < 12) :
    RoomSilent (given x did bc pkt) x :=
  ⟨room h, rfl⟩

theorem witness_UnansweredRequestStaysOnThePort :
    RoomSilent (given .preamble 0 0 []) .preamble ∧ (0xBF : Byte) = Config.test.pre0 ∧
    RoomSilent (given .zppReadCv 0 0 [1, 0]) .zppReadCv ∧ (given .zppReadCv 0 0 [1, 0]).pktLen + 1 = 3 ∧
    RoomSilent (given .zppReadCv 0 0 [1, 0, 5]) .zppReadCv ∧
    4 ≤ (given .zppReadCv 0 0 [1, 0, 5]).pktLen + 1 ∧
    RoomSilent (given .zppReadCv 0 0 [1, 0, 5, 0, 0, 0, 0, 0]) .zppReadCv ∧
    (given .zppReadCv 0 0 [1, 0, 5, 0, 0, 0, 0, 0]).pktLen + 1 ≤ 9 ∧
    RoomSilent (given .zppReadCv 0 0 [1, 0, 5, 0, 0, 0, 0, 0, 0]) .zppReadCv ∧
    (given .zppReadCv 0 0 [1, 0, 5, 0, 0, 0, 0, 0, 0]).pktLen + 1 = 10 ∧
    RoomSilent (given .zppWriteCv 0 0 [2, 0x55, 0, 1]) .zppWriteCv ∧
    (given .zppWriteCv 0 0 [2, 0x55, 0, 1]).pktLen + 1 =
      (if ((given .zppWriteCv 0 0 [2, 0x55, 0, 1]).pkt ++ [3])[0]? = some 0x02 then 5 else 6) ∧
    RoomSilent (given .zppWriteCv 0 0 [6, 0x55, 0, 1, 2]) .zppWriteCv ∧
    (given .zppWriteCv 0 0 [6, 0x55, 0, 1, 2]).pktLen + 1 =
      (if ((given .zppWriteCv 0 0 [6, 0x55, 0, 1, 2]).pkt ++ [3])[0]? = some 0x02 then 5 else 6) ∧
    RoomSilent (given .zppFlashErase 0 0 [3, 0x55, 0xFF]) .zppFlashErase ∧
    (given .zppFlashErase 0 0 [3, 0x55, 0xFF]).pktLen + 1 = 4 ∧
    (given .zppFlashErase 0 0 [3, 0x55, 0xFF]).pkt[1]? = some 0x55 ∧
    (given .zppFlashErase 0 0 [3, 0x55, 0xFF]).pkt[2]? = some 0xFF ∧
    RoomSilent (given .zppFlashWrite 0 0 [5, 1, 2, 3, 4, 5, 6, 7, 8, 9, 10]) .zppFlashWrite ∧
    (given .zppFlashWrite 0 0 [5, 1, 2, 3, 4, 5, 6, 7, 8, 9, 10]).pktLen + 1 = Config.test.maxFrame ∧
    RoomSilent (given .zppDecoderId 0 0 [4, 0, 0, 0, 0, 0]) .zppDecoderId ∧
    (given .zppDecoderId 0 0 [4, 0, 0, 0, 0, 0]).pktLen + 1 ≤ 7 ∧
    RoomSilent (given .zppDecoderId 0 0 [4, 0, 0, 0, 0, 0, 0]) .zppDecoderId ∧
    (given .zppDecoderId 0 0 [4, 0, 0, 0, 0, 0, 0]).pktLen + 1 = 8 ∧
    RoomSilent (given .zppCrcOrXorQuery 0 0 [7, 0, 0, 0, 0, 0]) .zppCrcOrXorQuery ∧
    (given .zppCrcOrXorQuery 0 0 [7, 0, 0, 0, 0, 0]).pktLen + 1 ≤ 7 ∧
    RoomSilent (given .zppCrcOrXorQuery 0 0 [7, 0, 0, 0, 0, 0, 0]) .zppCrcOrXorQuery ∧
    (given .zppCrcOrXorQuery 0 0 [7, 0, 0, 0, 0, 0, 0]).pktLen + 1 = 8 ∧
    RoomSilent (given .zsuDecoderId 0 0 []) .zsuDecoderId ∧
    RoomSilent (given .zsuBlockCount 0x91 0 []) .zsuBlockCount ∧
    RoomSilent (given .zsuSecurityByte1 0x91 2 []) .zsuSecurityByte1 ∧
    RoomSilent (given .zsuSecurityByte2 0x91 2 []) .zsuSecurityByte2 ∧
    RoomSilent (given .zsuBlocks 0x91 2 [0, 0x12, 0x34]) .zsuBlocks ∧
    (given .zsuBlocks 0x91 2 [0, 0x12, 0x34]).pktLen + 1 = Config.test.ds 0x91 + 2 :=
  ⟨roomSilent (by decide), by decide, roomSilent (by decide), by decide, roomSilent (by decide), by decide,
    roomSilent (by decide), by decide, roomSilent (by decide), by decide, roomSilent (by decide), by decide,
    roomSilent (by decide), by decide, roomSilent (by decide), by decide, by decide, by decide,
    roomSilent (by decide), by decide, roomSilent (by decide), by decide, roomSilent (by decide), by decide,
    roomSilent (by decide), by decide, roomSilent (by decide), by decide, roomSilent (by decide),
    roomSilent (by decide), roomSilent (by decide), roomSilent (by decide), roomSilent (by decide), by decide⟩

/-- Each hand-on, at the ends of the range of its byte. -/
theorem witness_UnansweredHandedOnRequestStaysOnThePort :
    RoomSilent (given .zppDispatch 0 0 []) .zppDispatch ∧ RoomSilent (given .preamble 0 0 []) .preamble ∧
    RoomSilent (given .entry 0 0 []) .entry ∧ 1 ≤ Config.test.maxFrame ∧
    (∀ b ∈ ([0x04, 0x07, 0x80, 0xFF] : List Byte),
      b ≠ Config.test.pre0 ∧ b ≠ Config.test.pre1 ∧ b ∉ Config.test.banner) ∧
    (0x80 : Byte) ≤ 0x80 ∧ (0x80 : Byte) ≤ 0xFF ∧ Config.test.pre0 ∉ Config.test.banner ∧
    Config.test.pre1 ∉ Config.test.banner :=
  ⟨roomSilent (by decide), roomSilent (by decide), roomSilent (by decide), by decide, by decide, by decide, by decide,
    by decide, by decide⟩

/-- One row of each group completes. -/
theorem witness_FrameOfRowsThatStoreNothing :
    (∃ t, exec (.prePreamble 0xBF) (answered (given .preamble 0 0 []) 2) = .next t) ∧
    (∃ t, exec .zsuSec1Ok (answered (given .zsuSecurityByte1 0x91 2 []) 1) = .next t) ∧
    (∃ t, exec (.zsuBlockCount 0x00) (answered (given .zsuBlockCount 0x91 0 []) 1) = .next t) ∧
    (∃ t, exec .hostReset (given .zsuBlocks 0x91 2 [0]) = .next t) :=
  ⟨exists_next (by decide), exists_next (by decide), exists_next (by decide), exists_next (by decide)⟩

theorem witness_FrameOfRowsThatAppend :
    (∃ t, exec (.zppReadCvProbe 0x00) (answered (given .zppReadCv 0 0 [1, 0, 5]) 1) = .next t) ∧
    (∃ t, exec (.zppWriteCvEnd 0x03) (answered (given .zppWriteCv 0 0 [2, 0x55, 0, 1]) 2) = .next t) ∧
    (∃ t, exec (.zsuBlockEnd 0x26) (answered (given .zsuBlocks 0x91 2 [0, 0x12, 0x34]) 2) = .next t) :=
  ⟨exists_next (by decide), exists_next (by decide), exists_next (by decide)⟩

theorem witness_FrameOfRowsThatHandOn :
    (∃ t, exec .zppCmdFlashErase (given .zppDispatch 0 0 []) = .next t) ∧
    (∃ t, exec (.preSelectZpp 0x01) (given .preamble 0 0 []) = .next t) ∧
    (∃ t, exec (.preSelectZsu 0x80) (answered (given .preamble 0 0 []) 2) = .next t) ∧
    (∃ t, exec (.entryFallthrough 0x00) State.reset = .next t) :=
  ⟨exists_next (by decide), exists_next (by decide), exists_next (by decide), exists_next (by decide)⟩

/-- A state that meets the invariant with a packet in assembly. -/
theorem inv_reading : Inv (fed (given .zppReadCv 0 0 [1, 0]) 0x05 2) where
  config := by decide
  canonical := by decide
  inRange := by decide
  capacity := by decide
  request := fun _ h => by cases h
  framing := fun _ => ⟨by decide, by decide, by decide, rfl, rfl⟩

/-- One in the ZSU branch, before a block is completed. -/
theorem inv_blocks : Inv (fed (given .zsuBlocks 0x91 2 [0, 0x12, 0x34]) 0x26 2) where
  config := by decide
  canonical := by decide
  inRange := by decide
  capacity := by decide
  request := fun _ h => by cases h
  framing := fun _ => ⟨by decide, by decide, by decide⟩

theorem inv_overflowing : Inv (fed (given .zsuBlocks 0x94 16 [1, 2, 3, 4, 5, 6, 7, 8, 9, 10, 11, 12]) 0x00 2) where
  config := by decide
  canonical := by decide
  inRange := by decide
  capacity := by decide
  request := fun _ h => by cases h
  framing := fun _ => ⟨by decide, by decide, by decide⟩

theorem inv_underflowing : Inv (fed (given .zsuBlocks 0x91 0 [1, 0xAB, 0xCD]) 0x66 2) where
  config := by decide
  canonical := by decide
  inRange := by decide
  capacity := by decide
  request := fun _ h => by cases h
  framing := fun _ => ⟨by decide, by decide, by decide⟩

theorem inv_counting (did : Byte) (b : Byte) : Inv (fed (given .zsuBlockCount did 0 []) b 1) where
  config := by show Config.test.WellFormed; decide
  canonical := by show Memory.wf []; decide
  inRange := fun _ h => by cases h
  capacity := Nat.zero_le _
  request := fun _ h => by cases h
  framing := fun _ => ⟨rfl, rfl⟩

theorem witness_EveryStepKeepsTheInvariant :
    Inv (fed (given .zppReadCv 0 0 [1, 0]) 0x05 2) ∧ (∃ t, step (fed (given .zppReadCv 0 0 [1, 0]) 0x05 2) = .next t) ∧
    Inv (fed (given .zsuBlocks 0x91 2 [0, 0x12, 0x34]) 0x26 2) ∧
    (∃ t, step (fed (given .zsuBlocks 0x91 2 [0, 0x12, 0x34]) 0x26 2) = .next t) :=
  ⟨inv_reading, exists_next (by decide), inv_blocks, exists_next (by decide)⟩

theorem witness_PowerOnMeetsTheInvariant : State.reset.cfg.WellFormed := by decide

theorem witness_EveryHostActionIsTaken :
    Inv (fed (given .zppReadCv 0 0 [1, 0]) 0x05 2) ∧ (fed (given .zppReadCv 0 0 [1, 0]) 0x05 2).rxReady = true ∧
    (fed (given .zppReadCv 0 0 [1, 0]) 0x05 2).env = .rx 0x05 (some 2) :: [] ∧
    Inv { given .zppDispatch 0 0 [] with env := [.reset] } ∧
    { given .zppDispatch 0 0 [] with env := [.reset] }.rxReady = true :=
  ⟨inv_reading, rfl, rfl,
    ⟨by decide, by decide, (fun _ h => by cases h), Nat.zero_le _, (fun _ h => by cases h), fun _ => ⟨rfl, rfl, rfl⟩⟩, rfl⟩

/-- Each of the four faults occurs. -/
theorem witness_FaultsHaveOnlyTheirListedCauses :
    Inv (fed (given .zsuBlocks 0x94 16 [1, 2, 3, 4, 5, 6, 7, 8, 9, 10, 11, 12]) 0x00 2) ∧
    (∃ t, step (fed (given .zsuBlocks 0x94 16 [1, 2, 3, 4, 5, 6, 7, 8, 9, 10, 11, 12]) 0x00 2) = .next t ∧
      t.fault = some .packetOverflow) ∧
    Inv (fed (given .zsuBlockCount 0x93 0 []) 0x05 1) ∧
    (∃ t, step (fed (given .zsuBlockCount 0x93 0 []) 0x05 1) = .next t ∧ t.fault = some .dataSizeZero) ∧
    Inv (fed (given .zsuBlockCount 0x90 0 []) 0x06 1) ∧
    (∃ t, step (fed (given .zsuBlockCount 0x90 0 []) 0x06 1) = .next t ∧ t.fault = some .blockCountNegative) ∧
    Inv (fed (given .zsuBlocks 0x91 0 [1, 0xAB, 0xCD]) 0x66 2) ∧
    (∃ t, step (fed (given .zsuBlocks 0x91 0 [1, 0xAB, 0xCD]) 0x66 2) = .next t ∧ t.fault = some .blockCountUnderflow) :=
  ⟨inv_overflowing, ⟨_, rfl, rfl⟩, inv_counting _ _, ⟨_, rfl, rfl⟩, inv_counting _ _, ⟨_, rfl, rfl⟩, inv_underflowing,
    ⟨_, rfl, rfl⟩⟩

theorem witness_ZppBranchIsLeftOnlyByReset :
    isZpp (fed (given .zppReadCv 0 0 [1, 0]) 0x05 2).st = true ∧
    (fed (given .zppReadCv 0 0 [1, 0]) 0x05 2).env = .rx 0x05 (some 2) :: [] ∧
    (∃ t, step (fed (given .zppReadCv 0 0 [1, 0]) 0x05 2) = .next t) ∧
    isZpp { given .zppReadCv 0 0 [1, 0] with env := [.reset] }.st = true ∧
    (∃ t, step { given .zppReadCv 0 0 [1, 0] with env := [.reset] } = .next t) :=
  ⟨rfl, rfl, exists_next (by decide), rfl, exists_next (by decide)⟩

theorem witness_ZppStepsRaiseNoFault :
    Inv (fed (given .zppReadCv 0 0 [1, 0]) 0x05 2) ∧ (fed (given .zppReadCv 0 0 [1, 0]) 0x05 2).fault = none ∧
    isZpp (fed (given .zppReadCv 0 0 [1, 0]) 0x05 2).st = true ∧
    (∃ t, step (fed (given .zppReadCv 0 0 [1, 0]) 0x05 2) = .next t) :=
  ⟨inv_reading, rfl, rfl, exists_next (by decide)⟩

/-- Each of the five states, where it advances. -/
theorem witness_ZsuStatesAdvanceInOrder :
    (∃ t, step (fed (given .zsuDecoderId 0 0 []) 0x91 2) = .next t) ∧
    (∃ t, step (fed (given .zsuBlockCount 0x91 0 []) 0x00 1) = .next t) ∧
    (∃ t, step (fed (given .zsuSecurityByte1 0x91 2 []) 0x55 1) = .next t) ∧
    (∃ t, step (fed (given .zsuSecurityByte2 0x91 2 []) 0xAA 1) = .next t) ∧
    (∃ t, step (fed (given .zsuBlocks 0x91 1 [1, 0xAB, 0xCD]) 0x66 2) = .next t) :=
  ⟨exists_next (by decide), exists_next (by decide), exists_next (by decide), exists_next (by decide),
    exists_next (by decide)⟩

/-- A confirmed identifier from each of the three states, and a reset. -/
theorem witness_DecoderIdHasOnlyItsTwoWriters :
    (∃ t, step (fed State.reset 0x91 2) = .next t) ∧ (∃ t, step (fed (given .preamble 0 0 []) 0x91 2) = .next t) ∧
    (∃ t, step (fed (given .zsuDecoderId 0 0 []) 0x91 2) = .next t) ∧
    (∃ t, step { given .zsuBlocks 0x91 2 [0] with env := [.reset] } = .next t) :=
  ⟨exists_next (by decide), exists_next (by decide), exists_next (by decide), exists_next (by decide)⟩

theorem witness_BlockCountHasOnlyItsThreeWriters :
    (∃ t, step (fed (given .zsuBlockCount 0x91 0 []) 0x00 1) = .next t) ∧
    (∃ t, step (fed (given .zsuBlocks 0x91 2 [0, 0x12, 0x34]) 0x26 2) = .next t) ∧
    (∃ t, step { given .zsuBlocks 0x91 2 [0] with env := [.reset] } = .next t) :=
  ⟨exists_next (by decide), exists_next (by decide), exists_next (by decide)⟩

theorem witness_NoStepWritesTheConfiguration : ∃ t, step (fed State.reset 0xBF 2) = .next t := exists_next (by decide)

theorem witness_StepTransmitsAndAnswersAtMostOnce :
    (∃ t, step (fed State.reset 0xBF 2) = .next t) ∧ (fed State.reset 0xBF 2).env = .rx 0xBF (some 2) :: [] :=
  ⟨exists_next (by decide), rfl⟩

theorem witness_EveryRequestHasALegalLength :
    Inv (fed (given .zppReadCv 0 0 [1, 0]) 0x05 2) ∧
    (∃ t, step (fed (given .zppReadCv 0 0 [1, 0]) 0x05 2) = .next t ∧ Event.tx ⟨[1, 0, 5], .cvRead⟩ ∈ t.trace) :=
  ⟨inv_reading, ⟨_, rfl, by decide⟩⟩

theorem witness_ZppStepsIgnoreThePulseCount :
    isZpp (given .zppReadCv 0 0 [1, 0]).st = true ∧
    (∃ t, step { given .zppReadCv 0 0 [1, 0] with env := .rx 0x05 (some 1) :: [] } = .next t) ∧
    (∃ t, step { given .zppReadCv 0 0 [1, 0] with env := .rx 0x05 (some 2) :: [] } = .next t) :=
  ⟨rfl, exists_next (by decide), exists_next (by decide)⟩

/-- Two states that differ at an index above the packet. -/
theorem witness_StaleBytesAreNeverObserved :
    SameVisible (given .zppReadCv 0 0 [1]) { given .zppReadCv 0 0 [1] with pktMem := [(0, 1), (5, 0x77)] } ∧
    given .zppReadCv 0 0 [1] ≠ { given .zppReadCv 0 0 [1] with pktMem := [(0, 1), (5, 0x77)] } := by
  refine ⟨⟨rfl, fun a ha => ?_⟩, by decide⟩
  have : a = 0 := Nat.lt_one_iff.mp ha
  subst this
  rfl

/-- W5 as an instance of the statement: identifier 0x91, count byte 0x00, two blocks of two payload bytes. -/
theorem witness_FullZsuSessionEndsInEntry :
    let s := { State.reset with
      env := sessionEvents [0xBF, 0xEF] 0x91 0x00 [[0x00, 0x12, 0x34, 0x26], [0x01, 0xAB, 0xCD, 0x66]] }
    Inv s ∧ s.rxReady = true ∧ s.st = .entry ∧ (∀ b ∈ ([0xBF, 0xEF] : List Byte), b = s.cfg.pre0 ∨ b = s.cfg.pre1) ∧
    (0x80 : Byte) ≤ 0x91 ∧ (0x91 : Byte) ≠ s.cfg.pre0 ∧ (0x91 : Byte) ≠ s.cfg.pre1 ∧
    blockCount s.cfg 0x00 0x91 = .ok 2 ∧
    (∀ f ∈ ([[0x00, 0x12, 0x34, 0x26], [0x01, 0xAB, 0xCD, 0x66]] : List (List Byte)), f.length = s.cfg.ds 0x91 + 2) ∧
    s.cfg.ds 0x91 + 2 ≤ s.cfg.maxFrame :=
  ⟨⟨by decide, by decide, (fun _ h => by cases h), Nat.zero_le _, (fun _ h => by cases h), fun _ => ⟨rfl, rfl, rfl⟩⟩,
    by decide, rfl, by decide, by decide, by decide, by decide, rfl, by decide, by decide⟩

end Sys2Proof.Tests
end

section
/-! Reasoning rules for a step: what it can begin with, that a byte runs the handler of its state, and how the shapes of
handlers can end. Each says once what its part of the model can do; the statements about every step are derived from
them. -/

namespace Sys2Proof.Machine

/-! ### What a step begins with -/

/-- The handler that a byte is dispatched to, by `st` alone (R83), with its choice of the row. -/
def receive (b : Byte) (s : State) : Result :=
  match s.st with
  | .entry => s.ctx.selectEntry b (execEntrySkip b s) (execEntryFallthrough b s)
  | .preamble => gotoPreamble b s
  | .zppDispatch => gotoZppDispatch b s
  | .zppReadCv => gotoZppReadCv b s
  | .zppWriteCv => gotoZppWriteCv b s
  | .zppFlashErase => gotoZppFlashErase b s
  | .zppFlashWrite => gotoZppFlashWrite b s
  | .zppDecoderId => gotoZppDecoderId b s
  | .zppCrcOrXorQuery => gotoZppCrcOrXorQuery b s
  | .zsuDecoderId => gotoZsuDecoderId b s
  | .zsuBlockCount => execZsuBlockCount b s
  | .zsuSecurityByte1 => selectLiteral b 0x55 (execZsuSec1Ok s) (execZsuSec1Bad b s)
  | .zsuSecurityByte2 => selectLiteral b 0xAA (execZsuSec2Ok s) (execZsuSec2Bad b s)
  | .zsuBlocks => s.ctx.selectBlocks (execZsuBlockByte b s) (execZsuBlockEnd b s) (.refused .noRow)

/-- The row that the decoder gives for a byte is the one its handler runs (R82, R83). -/
theorem exec_eq_receive {b : Byte} {s : State} {i : Instr} (hd : decode s.ctx (.rx b) = .row i) :
    exec i s = receive b s := by
  unfold receive
  simp only [decode, decodeByte, State.ctx_st] at hd
  cases hs : s.st <;> simp only [hs] at hd ⊢
  case preamble => exact (gotoPreamble_eq_exec hs (by simpa [decode, decodeByte, hs] using hd)).symm
  case zppDispatch => exact (gotoZppDispatch_eq_exec hs (by simpa [decode, decodeByte, hs] using hd)).symm
  case zsuDecoderId | zsuBlockCount => cases hd; rfl
  all_goals
    simp only [gotoZppReadCv, gotoZppWriteCv, gotoZppFlashErase, gotoZppFlashWrite, gotoZppDecoderId,
      gotoZppCrcOrXorQuery, Ctx.selectEntry, Ctx.selectReadCv, Ctx.selectWriteCv, Ctx.selectErase, Ctx.selectFlashWrite,
      Ctx.selectProbes, selectLiteral, Ctx.selectBlocks] at hd ⊢
    split_ifs at hd ⊢ <;> cases hd <;> rfl

/-- A step that answers a next state is idle, a power-on reset, a host reset, or a byte that its handler takes. -/
theorem step_eq_next {s t : State} (h : step s = .next t) :
    (s.env = [] ∧ t = s) ∨
    (∃ contents rest, s.env = .por contents :: rest ∧ t = (s.accept rest s.txAns).powerOn contents) ∨
    (∃ rest, s.env = .reset :: rest ∧ s.rxReady = true ∧ t = (s.accept rest s.txAns).sessionReset) ∨
    (∃ b answer rest, s.env = .rx b answer :: rest ∧ s.rxReady = true ∧
      receive b (s.accept rest answer) = .next t) := by
  unfold step fetch at h
  match he : s.env with
  | [] =>
    cases hr : s.rxReady <;> simp only [he, hr] at h <;> cases h
    exact .inl ⟨rfl, rfl⟩
  | .por contents :: rest =>
    simp only [he] at h
    cases h
    exact .inr (.inl ⟨contents, rest, rfl, rfl⟩)
  | .reset :: rest =>
    cases hr : s.rxReady <;> simp only [he, hr, if_true] at h
    · cases h
    · change execHostReset _ = .next t at h
      obtain ⟨-, -, h⟩ := runRow_eq_next h
      cases h
      exact .inr (.inr (.inl ⟨rest, rfl, rfl, rfl⟩))
  | .rx b answer :: rest =>
    cases hr : s.rxReady <;> simp only [he, hr] at h
    · cases h
    · refine .inr (.inr (.inr ⟨b, answer, rest, rfl, rfl, ?_⟩))
      cases hd : decode s.ctx (.rx b) with
      | noRow => simp [hd] at h
      | row i =>
        rw [← exec_eq_receive (s := s.accept rest answer) hd]
        simpa [hd] using h

/-! ### How a handler ends -/

/-- The step ends with the registers of `v`: what it adds to the trace is open, and so is whether a request was answered
on the way, which leaves the port free. -/
def State.EndsIn (v t : State) : Prop :=
  ∃ tr x, (x = v.tx ∨ x = none) ∧ t = { v with tx := x, trace := tr }

theorem State.EndsIn.of_respond {v t : State} {r : Response} (h : v.respond r = .next t) : v.EndsIn t :=
  ⟨_, _, .inl rfl, State.respond_eq_next.mp h⟩

theorem State.EndsIn.of_raise {v t : State} {r : FaultReason} (h : v.raise r = .next t) : (v.setFault r).EndsIn t :=
  ⟨_, _, .inl rfl, State.raise_eq_next.mp h⟩

/-- An answered request on the way does not change the registers a step ends with. -/
theorem State.EndsIn.of_answered {v t : State} {q : TxRequest} (h : ((v.openTx q).closeTx).EndsIn t) : v.EndsIn t := by
  obtain ⟨tr, x, hx, rfl⟩ := h
  exact ⟨tr, x, .inr (hx.elim id id), rfl⟩

section
variable {v t : State} (h : v.EndsIn t)
include h

theorem State.EndsIn.st_eq : t.st = v.st := by obtain ⟨_, _, _, rfl⟩ := h; rfl
theorem State.EndsIn.did_eq : t.did = v.did := by obtain ⟨_, _, _, rfl⟩ := h; rfl
theorem State.EndsIn.bc_eq : t.bc = v.bc := by obtain ⟨_, _, _, rfl⟩ := h; rfl
theorem State.EndsIn.pktLen_eq : t.pktLen = v.pktLen := by obtain ⟨_, _, _, rfl⟩ := h; rfl

end

/-- The byte goes out alone and the answer, if there is one, changes no register. -/
def SentAlone (b : Byte) (s t : State) : Prop := (∃ op, t = s.openTx ⟨[b], op⟩) ∨ s.EndsIn t

/-- How a row that appends its byte can end: at capacity it overflows; else it waits for ever with the byte or the whole
frame on the port, keeps collecting, or has completed its frame. `more` is what holds of a row that keeps collecting,
`done` the registers after a completed frame. -/
inductive Collected (b : Byte) (s : State) (more : Prop) (done t : State) : Prop
  | overflow (hfull : s.cfg.maxFrame ≤ s.pktLen) (ht : (s.setFault .packetOverflow).EndsIn t)
  | waits (hroom : s.pktLen < s.cfg.maxFrame) (bytes : List Byte) (op : TimeoutClass)
      (hbytes : bytes = [b] ∨ bytes = (s.store b).pkt) (ht : t = (s.store b).openTx ⟨bytes, op⟩)
  | stays (hroom : s.pktLen < s.cfg.maxFrame) (hmore : more) (ht : (s.store b).EndsIn t)
  | completes (hroom : s.pktLen < s.cfg.maxFrame) (ht : done.EndsIn t)

section
variable {b : Byte} {s t done : State} {more : Prop}

/-- Append, then anything that is settled below capacity. -/
theorem Collected.of_append {k : State → Result} (h : s.append b k = .next t)
    (hk : s.pktLen < s.cfg.maxFrame → k (s.store b) = .next t → Collected b s more done t) :
    Collected b s more done t := by
  obtain ⟨hfull, rfl⟩ | ⟨hroom, h⟩ := State.append_eq_next h
  · exact .overflow hfull (.of_raise rfl)
  · exact hk hroom h

theorem Collected.of_collect (hmore : more) (h : collect b s = .next t) : Collected b s more done t :=
  .of_append h fun hroom h => .stays hroom hmore (.of_respond h)

/-- Append, transmit the byte or the frame, then anything that is settled once the request is answered. -/
theorem Collected.of_sent {bytes : State → List Byte} {op : TimeoutClass} {k : Nat → State → Result}
    (h : (s.append b fun u => u.transmit (bytes u) op k) = .next t)
    (hbytes : bytes (s.store b) = [b] ∨ bytes (s.store b) = (s.store b).pkt)
    (hk : ∀ p q, s.pktLen < s.cfg.maxFrame → k p ((s.store b).openTx q).closeTx = .next t → Collected b s more done t) :
    Collected b s more done t :=
  .of_append h fun hroom h => by
    obtain ⟨-, ht⟩ | ⟨p, -, h⟩ := State.transmit_eq_next h
    · exact .waits hroom _ op hbytes ht
    · exact hk _ _ hroom h

theorem Collected.of_probe {op : TimeoutClass} (hmore : more) (h : probe b op s = .next t) :
    Collected b s more done t :=
  .of_sent h (.inl rfl) fun _ _ hroom h => .stays hroom hmore (.of_answered (.of_respond h))

theorem Collected.of_lastProbe {op : TimeoutClass} (h : lastProbe b op s = .next t) :
    Collected b s more (s.store b).toDispatch t :=
  .of_sent h (.inl rfl) fun _ _ hroom h => .completes hroom (.of_answered (v := (s.store b).toDispatch) (.of_respond h))

theorem Collected.of_frameEnd {op : TimeoutClass} (h : frameEnd b op s = .next t) :
    Collected b s more (s.store b).toDispatch t :=
  .of_sent h (.inr rfl) fun _ _ hroom h => .completes hroom (.of_answered (v := (s.store b).toDispatch) (.of_respond h))

/-! ### The handlers of the ZPP operation states -/

theorem gotoZppReadCv_eq_next (h : gotoZppReadCv b s = .next t) :
    Collected b s (s.pktLen + 1 ≤ 9) (s.store b).toDispatch t := by
  unfold gotoZppReadCv Ctx.selectReadCv at h
  rw [State.ctx_n] at h
  split_ifs at h with h2 h3 h9
  all_goals obtain ⟨-, -, h⟩ := runRow_eq_next h
  · exact .of_collect (by omega) h
  · exact .of_sent h (.inr rfl) fun _ _ hroom h => .stays hroom (by omega) (.of_answered (.of_respond h))
  · exact .of_probe h9 h
  · exact .of_lastProbe h

theorem gotoZppWriteCv_eq_next (h : gotoZppWriteCv b s = .next t) :
    Collected b s (s.pktLen + 1 < writeCvLen ((s.pkt ++ [b]).headD b)) (s.store b).toDispatch t := by
  unfold gotoZppWriteCv Ctx.selectWriteCv at h
  rw [State.ctx_n] at h
  split_ifs at h with hn
  all_goals obtain ⟨-, -, h⟩ := runRow_eq_next h
  · exact .of_collect hn h
  · exact .of_frameEnd h

/-- The last of the security bytes is the byte itself (R136). -/
theorem eq_of_eraseOk {pkt : List Byte} (hn : pkt.length = 3) (h : eraseOk (pkt ++ [b]) = true) : b = 0xFF := by
  obtain ⟨x, y, z, rfl⟩ := List.length_eq_three.mp hn
  obtain ⟨-, -, hb⟩ : y = 0x55 ∧ z = 0xFF ∧ b = 0xFF := by simpa [eraseOk] using h
  exact hb

theorem gotoZppFlashErase_eq_next (h : gotoZppFlashErase b s = .next t) :
    Collected b s (s.pktLen + 1 ≤ 3) (s.store b).toDispatch t := by
  unfold gotoZppFlashErase Ctx.selectErase at h
  rw [State.ctx_n] at h
  split_ifs at h with hn hn' hok
  all_goals obtain ⟨-, -, h⟩ := runRow_eq_next h
  · exact .of_collect hn h
  · obtain rfl := eq_of_eraseOk (by simpa using hn') hok
    exact .of_frameEnd h
  · exact .of_append h fun hroom h => .completes hroom (.of_respond h)

theorem gotoZppFlashWrite_eq_next (h : gotoZppFlashWrite b s = .next t) :
    Collected b s (s.pktLen + 1 < s.cfg.maxFrame) (s.store b).toDispatch t := by
  unfold gotoZppFlashWrite Ctx.selectFlashWrite at h
  rw [State.ctx_n] at h
  split_ifs at h with hn
  all_goals obtain ⟨-, -, h⟩ := runRow_eq_next h
  · exact .of_collect hn h
  · exact .of_frameEnd h

/-- What the two probing handlers share: seven bytes collect, the eighth returns to dispatch (R140 to R143). -/
theorem selectProbes_eq_next {i i' : Instr} {op : TimeoutClass}
    (h : s.ctx.selectProbes (runRow i s (probe b op)) (runRow i' s (lastProbe b op)) (.refused .noRow) = .next t) :
    Collected b s (s.pktLen + 1 ≤ 7) (s.store b).toDispatch t := by
  unfold Ctx.selectProbes at h
  rw [State.ctx_n] at h
  split_ifs at h with hn
  all_goals obtain ⟨-, -, h⟩ := runRow_eq_next h
  · exact .of_probe hn h
  · exact .of_lastProbe h

theorem gotoZppDecoderId_eq_next (h : gotoZppDecoderId b s = .next t) :
    Collected b s (s.pktLen + 1 ≤ 7) (s.store b).toDispatch t :=
  selectProbes_eq_next h

theorem gotoZppCrcOrXorQuery_eq_next (h : gotoZppCrcOrXorQuery b s = .next t) :
    Collected b s (s.pktLen + 1 ≤ 7) (s.store b).toDispatch t :=
  selectProbes_eq_next h

/-! ### The handlers of the common phase, and dispatch -/

theorem receive_entry (hs : s.st = .entry) (h : receive b s = .next t) :
    s.EndsIn t ∨ gotoPreamble b (s.setSt .preamble) = .next t := by
  simp only [receive, hs, Ctx.selectEntry] at h
  split_ifs at h
  all_goals obtain ⟨-, -, h⟩ := runRow_eq_next h
  · exact .inl (.of_respond h)
  · exact .inr h

theorem gotoPreamble_eq_next (h : gotoPreamble b s = .next t) :
    SentAlone b s t ∨ gotoZppDispatch b (s.setSt .zppDispatch) = .next t ∨
      gotoZsuDecoderId b (s.setSt .zsuDecoderId) = .next t := by
  unfold gotoPreamble Ctx.selectPreamble at h
  split_ifs at h
  all_goals obtain ⟨-, -, h⟩ := runRow_eq_next h
  · obtain ⟨-, ht⟩ | ⟨p, -, h⟩ := State.transmit_eq_next h
    · exact .inl (.inl ⟨_, ht⟩)
    · exact .inl (.inr (.of_answered (.of_respond h)))
  · exact .inr (.inr h)
  · exact .inr (.inl h)

/-- An unknown command byte is dropped; any other is handed on to its operation state, with the packet cleared. -/
theorem gotoZppDispatch_eq_next (h : gotoZppDispatch b s = .next t) :
    s.EndsIn t ∨
    (b = 0x01 ∧ gotoZppReadCv b (s.clear.setSt .zppReadCv) = .next t) ∨
    ((b = 0x02 ∨ b = 0x06) ∧ gotoZppWriteCv b (s.clear.setSt .zppWriteCv) = .next t) ∨
    (b = 0x03 ∧ gotoZppFlashErase b (s.clear.setSt .zppFlashErase) = .next t) ∨
    (b = 0x04 ∧ gotoZppDecoderId b (s.clear.setSt .zppDecoderId) = .next t) ∨
    (b = 0x05 ∧ gotoZppFlashWrite b (s.clear.setSt .zppFlashWrite) = .next t) ∨
    (b = 0x07 ∧ gotoZppCrcOrXorQuery b (s.clear.setSt .zppCrcOrXorQuery) = .next t) := by
  unfold gotoZppDispatch selectDispatch at h
  split_ifs at h <;> obtain ⟨-, -, h⟩ := runRow_eq_next h <;> subst_vars
  case neg => exact .inl (.of_respond h)
  all_goals
    right
    simpa using h

/-! ### The handlers of the ZSU branch -/

theorem gotoZsuDecoderId_eq_next (h : gotoZsuDecoderId b s = .next t) :
    SentAlone b s t ∨ (s.txAns = some 2 ∧ ((s.setDid b).setSt .zsuBlockCount).EndsIn t) := by
  unfold gotoZsuDecoderId at h
  obtain ⟨-, -, h⟩ := runRow_eq_next h
  obtain ⟨-, ht⟩ | ⟨p, hp, h⟩ := State.transmit_eq_next h
  · exact .inl (.inl ⟨_, ht⟩)
  · split_ifs at h with h2
    · rw [portPulses_eq_two] at h2
      exact .inr ⟨h2 ▸ hp, .of_answered (v := (s.setDid b).setSt .zsuBlockCount) (.of_respond h)⟩
    · exact .inl (.inr (.of_answered (.of_respond h)))

theorem execZsuBlockCount_eq_next (h : execZsuBlockCount b s = .next t) :
    SentAlone b s t ∨ (∃ r, (s.setFault r).EndsIn t) ∨
      (s.txAns = some 1 ∧ ∃ q, blockCount s.cfg b s.did = .ok q ∧
        ((s.setBc (BitVec.ofNat 32 q)).setSt .zsuSecurityByte1).EndsIn t) := by
  obtain ⟨-, -, h⟩ := runRow_eq_next h
  obtain ⟨-, ht⟩ | ⟨p, hp, h⟩ := State.transmit_eq_next h
  · exact .inl (.inl ⟨_, ht⟩)
  · split_ifs at h with h1
    · rw [portPulses_eq_one] at h1
      cases hq : blockCount s.cfg b s.did with
      | error r =>
        simp only [State.closeTx_cfg, State.openTx_cfg, State.closeTx_did, State.openTx_did, hq] at h
        exact .inr (.inl ⟨r, .of_answered (v := s.setFault r) (.of_raise h)⟩)
      | ok q =>
        simp only [State.closeTx_cfg, State.openTx_cfg, State.closeTx_did, State.openTx_did, hq] at h
        exact .inr (.inr ⟨h1 ▸ hp, q, rfl,
          .of_answered (v := (s.setBc (BitVec.ofNat 32 q)).setSt .zsuSecurityByte1) (.of_respond h)⟩)
    · exact .inl (.inr (.of_answered (.of_respond h)))

theorem securityOk_eq_next {op : TimeoutClass} {next : St} (h : securityOk b op next s = .next t) :
    SentAlone b s t ∨ (s.setSt next).EndsIn t := by
  obtain ⟨-, ht⟩ | ⟨p, -, h⟩ := State.transmit_eq_next h
  · exact .inl (.inl ⟨_, ht⟩)
  · split_ifs at h
    · exact .inr (.of_answered (v := s.setSt next) (.of_respond h))
    · exact .inl (.inr (.of_answered (.of_respond h)))

/-- What the two security handlers share: the literal goes out and may advance, any other byte resets (R164 to R167). -/
theorem selectLiteral_eq_next {literal : Byte} {i i' : Instr} {op : TimeoutClass} {next : St}
    (h : selectLiteral b literal (runRow i s (securityOk literal op next)) (runRow i' s securityBad) = .next t) :
    SentAlone b s t ∨ (s.setSt next).EndsIn t ∨ s.sessionReset.EndsIn t := by
  unfold selectLiteral at h
  split_ifs at h with hb
  all_goals obtain ⟨-, -, h⟩ := runRow_eq_next h
  · exact (securityOk_eq_next (hb ▸ h)).imp_right .inl
  · exact .inr (.inr (.of_respond h))

/-- An accepted block underflows, ends the session, or leaves one block fewer to come (R169). -/
inductive Accepted (s t : State) : Prop
  | underflows (hbc : s.bc = 0) (ht : (s.setFault .blockCountUnderflow).EndsIn t)
  | last (ht : s.sessionReset.EndsIn t)
  | counts (hbc : s.bc ≠ 0) (ht : (s.setBc (s.bc - 1)).EndsIn t)

theorem Accepted.of_acceptBlock {p : Nat} (h : acceptBlock p s = .next t) : Accepted s t := by
  unfold acceptBlock at h
  split_ifs at h with hbc
  · exact .underflows hbc (.of_raise h)
  · exact .last (.of_respond h)
  · exact .counts hbc (.of_respond h)

theorem Accepted.of_answered {q : TxRequest} (h : Accepted (s.openTx q).closeTx t) : Accepted s t := by
  cases h with
  | underflows hbc ht => exact .underflows hbc (.of_answered (v := s.setFault _) ht)
  | last ht => exact .last (.of_answered (v := s.sessionReset) ht)
  | counts hbc ht => exact .counts hbc (.of_answered (v := s.setBc (s.bc - 1)) ht)

/-- A byte of a block collects. The last one transmits the frame and clears the packet, and two pulses accept the block
(R168, R169). -/
theorem receive_zsuBlocks (hs : s.st = .zsuBlocks) (h : receive b s = .next t) :
    Collected b s (s.pktLen + 1 < s.cfg.ds s.did + 2) (s.store b).clear t ∨
      (s.pktLen < s.cfg.maxFrame ∧ s.txAns = some 2 ∧ Accepted (s.store b).clear t) := by
  simp only [receive, hs, Ctx.selectBlocks, blockLen, State.ctx_n, State.ctx_cfg, State.ctx_did] at h
  split_ifs at h with hn
  all_goals obtain ⟨-, -, h⟩ := runRow_eq_next h
  · exact .inl (.of_collect hn h)
  obtain ⟨hfull, rfl⟩ | ⟨hroom, h⟩ := State.append_eq_next h
  · exact .inl (.overflow hfull (.of_raise rfl))
  obtain ⟨-, ht⟩ | ⟨p, hp, h⟩ := State.transmit_eq_next h
  · exact .inl (.waits hroom _ _ (.inr rfl) ht)
  split_ifs at h with h2
  · rw [portPulses_eq_two] at h2
    exact .inr ⟨hroom, h2 ▸ hp, .of_answered (s := (s.store b).clear) (.of_acceptBlock h)⟩
  · exact .inl (.completes hroom (.of_answered (v := (s.store b).clear) (.of_respond h)))

end

end Sys2Proof.Machine
end

section
/-! Who writes the session context `did` and `bc` in a step (R21, R22). -/

namespace Sys2Proof.Machine

/-- How a byte may touch the session context: not at all, by a confirmed decoder identifier, by a confirmed block count,
by an accepted block, or by a reset of the session. -/
inductive ContextWrite (b : Byte) (s t : State) : Prop
  | held (hdid : t.did = s.did) (hbc : t.bc = s.bc)
  | decoderId (hs : s.st = .entry ∨ s.st = .preamble ∨ s.st = .zsuDecoderId) (hans : s.txAns = some 2)
      (hdid : t.did = b) (hbc : t.bc = s.bc) (hst : t.st = .zsuBlockCount)
  | blockCount (hs : s.st = .zsuBlockCount) (hans : s.txAns = some 1) (hdid : t.did = s.did) (q : Nat)
      (hq : blockCount s.cfg b s.did = .ok q) (hbc : t.bc = BitVec.ofNat 32 q) (hst : t.st = .zsuSecurityByte1)
  | block (hs : s.st = .zsuBlocks) (hans : s.txAns = some 2) (hdid : t.did = s.did) (hne : s.bc ≠ 0)
      (hbc : t.bc = s.bc - 1)
  | reset (hst : t.st = .entry) (hdid : t.did = 0) (hbc : t.bc = 0) (hlen : t.pktLen = 0)

section
variable {b : Byte} {s t v done : State} {more : Prop}

theorem ContextWrite.of_endsIn (h : v.EndsIn t) (hdid : v.did = s.did) (hbc : v.bc = s.bc) : ContextWrite b s t :=
  .held (h.did_eq.trans hdid) (h.bc_eq.trans hbc)

theorem ContextWrite.of_sessionReset (h : v.sessionReset.EndsIn t) : ContextWrite b s t :=
  .reset h.st_eq h.did_eq h.bc_eq h.pktLen_eq

theorem ContextWrite.of_sentAlone (h : SentAlone b s t) : ContextWrite b s t := by
  obtain ⟨op, rfl⟩ | h := h
  · exact .held rfl rfl
  · exact .of_endsIn h rfl rfl

/-- A row that appends its byte leaves the context alone, whatever it does next. -/
theorem ContextWrite.of_collected (h : Collected b v more done t) (hdone : done.did = v.did ∧ done.bc = v.bc)
    (hdid : v.did = s.did) (hbc : v.bc = s.bc) : ContextWrite b s t := by
  cases h with
  | overflow _ ht => exact .of_endsIn ht hdid hbc
  | waits _ _ _ _ ht => subst ht; exact .held hdid hbc
  | stays _ _ ht => exact .of_endsIn ht hdid hbc
  | completes _ ht => exact .of_endsIn ht (hdone.1.trans hdid) (hdone.2.trans hbc)

theorem ContextWrite.of_dispatch (h : gotoZppDispatch b v = .next t) (hdid : v.did = s.did) (hbc : v.bc = s.bc) :
    ContextWrite b s t := by
  obtain h | ⟨-, h⟩ | ⟨-, h⟩ | ⟨-, h⟩ | ⟨-, h⟩ | ⟨-, h⟩ | ⟨-, h⟩ := gotoZppDispatch_eq_next h
  · exact .of_endsIn h hdid hbc
  · exact .of_collected (gotoZppReadCv_eq_next h) ⟨rfl, rfl⟩ hdid hbc
  · exact .of_collected (gotoZppWriteCv_eq_next h) ⟨rfl, rfl⟩ hdid hbc
  · exact .of_collected (gotoZppFlashErase_eq_next h) ⟨rfl, rfl⟩ hdid hbc
  · exact .of_collected (gotoZppDecoderId_eq_next h) ⟨rfl, rfl⟩ hdid hbc
  · exact .of_collected (gotoZppFlashWrite_eq_next h) ⟨rfl, rfl⟩ hdid hbc
  · exact .of_collected (gotoZppCrcOrXorQuery_eq_next h) ⟨rfl, rfl⟩ hdid hbc

theorem ContextWrite.of_decoderId (hs : s.st = .entry ∨ s.st = .preamble ∨ s.st = .zsuDecoderId) {x : St}
    (h : gotoZsuDecoderId b (s.setSt x) = .next t) : ContextWrite b s t := by
  obtain (⟨op, rfl⟩ | h) | ⟨hans, h⟩ := gotoZsuDecoderId_eq_next h
  · exact .held rfl rfl
  · exact .of_endsIn h rfl rfl
  · exact .decoderId hs hans h.did_eq h.bc_eq h.st_eq

theorem ContextWrite.of_preamble (hs : s.st = .entry ∨ s.st = .preamble) {x : St}
    (h : gotoPreamble b (s.setSt x) = .next t) : ContextWrite b s t := by
  obtain (⟨op, rfl⟩ | h) | h | h := gotoPreamble_eq_next h
  · exact .held rfl rfl
  · exact .of_endsIn h rfl rfl
  · exact .of_dispatch h rfl rfl
  · exact .of_decoderId (hs.imp_right .inl) (x := .zsuDecoderId) h

theorem ContextWrite.of_blockCount (hs : s.st = .zsuBlockCount) (h : execZsuBlockCount b s = .next t) :
    ContextWrite b s t := by
  obtain h | ⟨r, h⟩ | ⟨hans, q, hq, h⟩ := execZsuBlockCount_eq_next h
  · exact .of_sentAlone h
  · exact .of_endsIn h rfl rfl
  · exact .blockCount hs hans h.did_eq q hq h.bc_eq h.st_eq

/-- A security byte writes the context by the reset of a violation only (R164 to R167). -/
theorem ContextWrite.of_security {x : St} (h : SentAlone b s t ∨ (s.setSt x).EndsIn t ∨ s.sessionReset.EndsIn t) :
    ContextWrite b s t := by
  obtain h | h | h := h
  · exact .of_sentAlone h
  · exact .of_endsIn h rfl rfl
  · exact .of_sessionReset h

theorem ContextWrite.of_blocks (hs : s.st = .zsuBlocks) (h : receive b s = .next t) : ContextWrite b s t := by
  obtain h | ⟨-, hans, h⟩ := receive_zsuBlocks hs h
  · exact .of_collected h ⟨rfl, rfl⟩ rfl rfl
  · cases h with
    | underflows _ ht => exact .of_endsIn ht rfl rfl
    | last ht => exact .of_sessionReset ht
    | counts hne ht => exact .block hs hans ht.did_eq hne ht.bc_eq

/-- The session context after a byte, in every state. -/
theorem receive_contextWrite (h : receive b s = .next t) : ContextWrite b s t := by
  have hget := h
  cases hs : s.st <;> simp only [receive, hs] at hget
  case entry =>
    obtain h | h := receive_entry hs h
    · exact .of_endsIn h rfl rfl
    · exact .of_preamble (.inl hs) h
  case preamble => exact .of_preamble (.inr hs) (x := s.st) hget
  case zppDispatch => exact .of_dispatch hget rfl rfl
  case zppReadCv => exact .of_collected (gotoZppReadCv_eq_next hget) ⟨rfl, rfl⟩ rfl rfl
  case zppWriteCv => exact .of_collected (gotoZppWriteCv_eq_next hget) ⟨rfl, rfl⟩ rfl rfl
  case zppFlashErase => exact .of_collected (gotoZppFlashErase_eq_next hget) ⟨rfl, rfl⟩ rfl rfl
  case zppFlashWrite => exact .of_collected (gotoZppFlashWrite_eq_next hget) ⟨rfl, rfl⟩ rfl rfl
  case zppDecoderId => exact .of_collected (gotoZppDecoderId_eq_next hget) ⟨rfl, rfl⟩ rfl rfl
  case zppCrcOrXorQuery => exact .of_collected (gotoZppCrcOrXorQuery_eq_next hget) ⟨rfl, rfl⟩ rfl rfl
  case zsuDecoderId => exact .of_decoderId (.inr (.inr hs)) (x := s.st) hget
  case zsuBlockCount => exact .of_blockCount hs hget
  case zsuSecurityByte1 | zsuSecurityByte2 => exact .of_security (selectLiteral_eq_next hget)
  case zsuBlocks => exact .of_blocks hs h

/-- The session context after a step: held, reset, or written by a byte whose answer stands with it. -/
theorem step_contextWrite (h : step s = .next t) :
    (t.did = s.did ∧ t.bc = s.bc) ∨ (t.st = .entry ∧ t.did = 0 ∧ t.bc = 0 ∧ t.pktLen = 0) ∨
      ∃ b answer rest, s.env = .rx b answer :: rest ∧ ContextWrite b (s.accept rest answer) t := by
  obtain ⟨-, rfl⟩ | ⟨contents, rest, -, rfl⟩ | ⟨rest, -, -, rfl⟩ | ⟨b, answer, rest, he, -, h⟩ := step_eq_next h
  · exact .inl ⟨rfl, rfl⟩
  · exact .inr (.inl ⟨rfl, rfl, rfl, rfl⟩)
  · exact .inr (.inl ⟨rfl, rfl, rfl, rfl⟩)
  · exact .inr (.inr ⟨b, answer, rest, he, receive_contextWrite h⟩)

end

/-- Settles O49: of the ways a step may touch the session context, only a confirmed identifier and a reset write
`did`. -/
theorem decoderIdHasOnlyItsTwoWriters : Obligations.DecoderIdHasOnlyItsTwoWriters := by
  intro s t h
  obtain ⟨hdid, -⟩ | ⟨hst, hdid, hbc, hlen⟩ | ⟨b, answer, rest, he, hw⟩ := step_contextWrite h
  · exact .inl hdid
  · exact .inr (.inl ⟨hst, hdid, hbc, hlen⟩)
  cases hw with
  | held hdid | blockCount _ _ hdid | block _ _ hdid => exact .inl hdid
  | reset hst hdid hbc hlen => exact .inr (.inl ⟨hst, hdid, hbc, hlen⟩)
  | decoderId hs hans hdid _ hst =>
    obtain rfl : answer = some 2 := hans
    exact .inr (.inr ⟨b, rest, he, hs, hdid, hst⟩)

/-- Settles O50: of the ways a step may touch the session context, only a confirmed count, an accepted block and a reset
write `bc`. -/
theorem blockCountHasOnlyItsThreeWriters : Obligations.BlockCountHasOnlyItsThreeWriters := by
  intro s t h
  obtain ⟨-, hbc⟩ | ⟨hst, hdid, hbc, hlen⟩ | ⟨b, answer, rest, he, hw⟩ := step_contextWrite h
  · exact .inl hbc
  · exact .inr (.inl ⟨hst, hbc, hdid, hlen⟩)
  cases hw with
  | held _ hbc | decoderId _ _ _ hbc => exact .inl hbc
  | reset hst hdid hbc hlen => exact .inr (.inl ⟨hst, hbc, hdid, hlen⟩)
  | blockCount hs hans _ q hq hbc hst =>
    obtain rfl : answer = some 1 := hans
    exact .inr (.inr (.inl ⟨b, rest, q, he, hs, hq, hbc, hst⟩))
  | block hs hans _ hne hbc =>
    obtain rfl : answer = some 2 := hans
    exact .inr (.inr (.inr ⟨b, rest, he, hs, hne, hbc⟩))

end Sys2Proof.Machine
end

section
/-! The invariant of R28 to R30 holds after power-on, and every step keeps it. -/

namespace Sys2Proof.Machine

/-! ### The part of the invariant that does not depend on `st` -/

/-- The part of the invariant that reads only the configuration and the packet: it holds inside a step too. -/
structure State.Sound (s : State) : Prop where
  config : s.cfg.WellFormed
  canonical : s.pktMem.wf
  inRange : ∀ c ∈ s.pktMem, c.1 < s.cfg.maxFrame
  capacity : s.pktLen ≤ s.cfg.maxFrame

theorem Inv.sound {s : State} (h : Inv s) : s.Sound := ⟨h.config, h.canonical, h.inRange, h.capacity⟩

theorem State.Sound.ten_le_maxFrame {s : State} (h : s.Sound) : 10 ≤ s.cfg.maxFrame := by
  obtain ⟨-, -, -, -, hmax⟩ := h.config
  exact hmax

/-- A register write that leaves the storage alone and does not lengthen the packet keeps it. -/
theorem State.Sound.of_eq {s t : State} (h : s.Sound) (hcfg : t.cfg = s.cfg) (hmem : t.pktMem = s.pktMem)
    (hlen : t.pktLen ≤ s.pktLen) : t.Sound where
  config := hcfg ▸ h.config
  canonical := hmem ▸ h.canonical
  inRange := by rw [hmem, hcfg]; exact h.inRange
  capacity := by rw [hcfg]; exact hlen.trans h.capacity

/-- `Append` below capacity keeps it (R41). -/
theorem State.Sound.store {s : State} (h : s.Sound) (hroom : s.pktLen < s.cfg.maxFrame) (v : Byte) :
    (s.store v).Sound where
  config := h.config
  canonical := Memory.write_wf _ _ h.canonical
  inRange c hc := by
    obtain hc | hc := Memory.mem_write hc
    · exact hc.trans_lt hroom
    · exact h.inRange c hc
  capacity := hroom

/-- A step that ends with sound and framed registers ends in the invariant. -/
theorem State.EndsIn.inv {v t : State} (h : v.EndsIn t) (hsound : v.Sound) (htx : v.tx = none) (hframed : v.Framed) :
    Inv t := by
  obtain ⟨tr, x, hx, rfl⟩ := h
  obtain rfl : x = none := hx.elim (·.trans htx) id
  exact ⟨hsound.config, hsound.canonical, hsound.inRange, hsound.capacity, nofun, fun _ => hframed⟩

/-- The waiting engine meets the invariant when its request has a legal length (R46). -/
theorem Inv.of_openTx {v : State} {bytes : List Byte} {op : TimeoutClass} (hsound : v.Sound) (hfault : v.fault = none)
    (hpos : 1 ≤ bytes.length) (hmax : bytes.length ≤ v.cfg.maxFrame) : Inv (v.openTx ⟨bytes, op⟩) where
  config := hsound.config
  canonical := hsound.canonical
  inRange := hsound.inRange
  capacity := hsound.capacity
  request := by rintro _ ⟨⟩; exact ⟨hfault, hpos, hmax⟩
  framing := nofun

theorem inv_powerOn (s : State) (contents : List Byte) (h : s.cfg.WellFormed) : Inv (s.powerOn contents) where
  config := h
  canonical := Memory.writeAll_wf _ _ Memory.nil_wf
  inRange := Memory.writeAll_bound 0 _ _ nofun (by simp)
  capacity := Nat.zero_le _
  request := nofun
  framing _ := ⟨rfl, rfl, rfl⟩

/-! ### The frames of the ZPP operation states -/

/-- An engine that a byte reaches in its step: the invariant up to `Framed`, and `rx_ready` high. -/
structure State.Taking (s : State) : Prop where
  sound : s.Sound
  fault : s.fault = none
  tx : s.tx = none

theorem Inv.taking {s : State} (h : Inv s) (hr : s.rxReady = true) : s.Taking :=
  ⟨h.sound, (s.rxReady_iff.mp hr).1, (s.rxReady_iff.mp hr).2⟩

theorem State.Taking.of_eq {s t : State} (h : s.Taking) (hcfg : t.cfg = s.cfg) (hmem : t.pktMem = s.pktMem)
    (hlen : t.pktLen ≤ s.pktLen) (hfault : t.fault = s.fault) (htx : t.tx = s.tx) : t.Taking :=
  ⟨h.sound.of_eq hcfg hmem hlen, hfault.trans h.fault, htx.trans h.tx⟩

section
variable {b cmd : Byte} {s t done : State} {more : Prop}

theorem State.Taking.inv_of_sentAlone (hs : s.Taking) (hframed : s.Framed) (h : SentAlone b s t) : Inv t := by
  obtain ⟨op, rfl⟩ | h := h
  · exact .of_openTx hs.sound hs.fault le_rfl (by have := hs.sound.ten_le_maxFrame; simp; omega)
  · exact h.inv hs.sound hs.tx hframed

/-- A row that appends its byte ends in the invariant, if it does where it overflows, keeps collecting, or completes its
frame. -/
theorem State.Taking.inv_of_collected (hs : s.Taking) (h : Collected b s more done t)
    (hfull : s.cfg.maxFrame ≤ s.pktLen → s.Framed)
    (hstays : s.pktLen < s.cfg.maxFrame → more → (s.store b).Framed)
    (hdone : (s.store b).Sound → done.EndsIn t → Inv t) : Inv t := by
  cases h with
  | overflow hmax ht => exact ht.inv (hs.sound.of_eq rfl rfl le_rfl) hs.tx (hfull hmax)
  | waits hroom bytes op hbytes ht =>
    have hstored := hs.sound.store hroom b
    have hten := hstored.ten_le_maxFrame
    subst ht
    obtain rfl | rfl := hbytes
    · exact .of_openTx hstored hs.fault le_rfl (by simp; omega)
    · exact .of_openTx hstored hs.fault (by simp) (by simpa using hroom)
  | stays hroom hmore ht => exact ht.inv (hs.sound.store hroom b) hs.tx (hstays hroom hmore)
  | completes hroom ht => exact hdone (hs.sound.store hroom b) ht

/-- A byte `b` reaches a ZPP operation state with the frame of command `cmd` in assembly, or starts it. -/
structure State.Assembles (s : State) (b cmd : Byte) : Prop where
  taking : s.Taking
  context : s.NoContext
  room : s.pktLen < s.cfg.maxFrame
  head : (s.pkt ++ [b]).head? = some cmd

/-- A command byte starts its frame in the cleared packet (R120). -/
theorem State.Taking.assembles_command (hs : s.Taking) (hctx : s.NoContext) (x : St) :
    (s.clear.setSt x).Assembles b b where
  taking := hs.of_eq rfl rfl (Nat.zero_le _) rfl rfl
  context := hctx
  room := Nat.lt_of_lt_of_le (by simp) hs.sound.ten_le_maxFrame
  head := rfl

/-- A later byte continues it. -/
theorem State.Taking.assembles_frame {hi : Nat} (hs : s.Taking) (h : s.Frame cmd 1 hi) (hmax : hi < s.cfg.maxFrame) :
    s.Assembles b cmd := by
  obtain ⟨-, hlen, hhead, hctx⟩ := h
  exact ⟨hs, hctx, hlen.trans_lt hmax, by simp [hhead]⟩

theorem State.Assembles.frame_store (h : s.Assembles b cmd) {hi : Nat} (hhi : s.pktLen + 1 ≤ hi) :
    (s.store b).Frame cmd 1 hi :=
  ⟨by simp, hhi, by rw [State.pkt_store]; exact h.head, h.context⟩

/-- Where the frame in assembly is all that `Framed` asks, a row that appends its byte ends in the invariant. -/
theorem State.Assembles.inv {hi : Nat} (h : s.Assembles b cmd) (hc : Collected b s more (s.store b).toDispatch t)
    (hhi : more → s.pktLen + 1 ≤ hi) (hframed : (s.store b).Frame cmd 1 hi → (s.store b).Framed) : Inv t :=
  h.taking.inv_of_collected hc (fun hfull => absurd h.room (Nat.not_lt.mpr hfull))
    (fun _ hmore => hframed (h.frame_store (hhi hmore)))
    fun hsound ht => ht.inv (hsound.of_eq rfl rfl (Nat.zero_le _)) h.taking.tx ⟨rfl, h.context⟩

theorem inv_of_gotoZppReadCv (hst : s.st = .zppReadCv) (hs : s.Assembles b 0x01) (h : gotoZppReadCv b s = .next t) :
    Inv t :=
  hs.inv (gotoZppReadCv_eq_next h) id fun hf => by simpa [State.Framed, hst] using hf

/-- The first byte fixes the length of the frame, 5 or 6 (R133). -/
theorem inv_of_gotoZppWriteCv (hst : s.st = .zppWriteCv) (hs : s.Assembles b 0x02 ∨ s.Assembles b 0x06)
    (h : gotoZppWriteCv b s = .next t) : Inv t := by
  have hc := gotoZppWriteCv_eq_next h
  rw [List.headD_eq_head?_getD] at hc
  obtain hs | hs := hs <;> rw [hs.head] at hc
  · exact hs.inv hc Nat.lt_succ_iff.mp fun hf => by simpa [State.Framed, hst] using Or.inl hf
  · exact hs.inv hc Nat.lt_succ_iff.mp fun hf => by simpa [State.Framed, hst] using Or.inr hf

theorem inv_of_gotoZppFlashErase (hst : s.st = .zppFlashErase) (hs : s.Assembles b 0x03)
    (h : gotoZppFlashErase b s = .next t) : Inv t :=
  hs.inv (gotoZppFlashErase_eq_next h) id fun hf => by simpa [State.Framed, hst] using hf

theorem inv_of_gotoZppFlashWrite (hst : s.st = .zppFlashWrite) (hs : s.Assembles b 0x05)
    (h : gotoZppFlashWrite b s = .next t) : Inv t :=
  hs.inv (gotoZppFlashWrite_eq_next h) Nat.le_sub_one_of_lt fun hf => by simpa [State.Framed, hst] using hf

theorem inv_of_gotoZppDecoderId (hst : s.st = .zppDecoderId) (hs : s.Assembles b 0x04)
    (h : gotoZppDecoderId b s = .next t) : Inv t :=
  hs.inv (gotoZppDecoderId_eq_next h) id fun hf => by simpa [State.Framed, hst] using hf

theorem inv_of_gotoZppCrcOrXorQuery (hst : s.st = .zppCrcOrXorQuery) (hs : s.Assembles b 0x07)
    (h : gotoZppCrcOrXorQuery b s = .next t) : Inv t :=
  hs.inv (gotoZppCrcOrXorQuery_eq_next h) id fun hf => by simpa [State.Framed, hst] using hf

/-! ### The handlers of the common phase, dispatch and ZSU -/

/-- In ZppDispatch: an empty packet and an unused context are all that `Framed` asks there, and all that the handler
needs. -/
theorem inv_of_gotoZppDispatch (hs : s.Taking) (hst : s.st = .zppDispatch) (hlen : s.pktLen = 0) (hctx : s.NoContext)
    (h : gotoZppDispatch b s = .next t) : Inv t := by
  obtain h | ⟨rfl, h⟩ | ⟨rfl | rfl, h⟩ | ⟨rfl, h⟩ | ⟨rfl, h⟩ | ⟨rfl, h⟩ | ⟨rfl, h⟩ := gotoZppDispatch_eq_next h
  · exact h.inv hs.sound hs.tx (by simp [State.Framed, hst, hlen, hctx])
  · exact inv_of_gotoZppReadCv rfl (hs.assembles_command hctx _) h
  · exact inv_of_gotoZppWriteCv rfl (.inl (hs.assembles_command hctx _)) h
  · exact inv_of_gotoZppWriteCv rfl (.inr (hs.assembles_command hctx _)) h
  · exact inv_of_gotoZppFlashErase rfl (hs.assembles_command hctx _) h
  · exact inv_of_gotoZppDecoderId rfl (hs.assembles_command hctx _) h
  · exact inv_of_gotoZppFlashWrite rfl (hs.assembles_command hctx _) h
  · exact inv_of_gotoZppCrcOrXorQuery rfl (hs.assembles_command hctx _) h

theorem inv_of_gotoZsuDecoderId (hs : s.Taking) (hst : s.st = .zsuDecoderId) (hlen : s.pktLen = 0) (hctx : s.NoContext)
    (h : gotoZsuDecoderId b s = .next t) : Inv t := by
  obtain h | ⟨-, h⟩ := gotoZsuDecoderId_eq_next h
  · exact hs.inv_of_sentAlone (by simp [State.Framed, hst, hlen, hctx]) h
  · obtain ⟨-, hbc⟩ := hctx
    exact h.inv (hs.sound.of_eq rfl rfl le_rfl) hs.tx ⟨hlen, hbc⟩

theorem inv_of_gotoPreamble (hs : s.Taking) (hst : s.st = .preamble) (hlen : s.pktLen = 0) (hctx : s.NoContext)
    (h : gotoPreamble b s = .next t) : Inv t := by
  have hnext (x : St) : (s.setSt x).Taking := hs.of_eq rfl rfl le_rfl rfl rfl
  obtain h | h | h := gotoPreamble_eq_next h
  · exact hs.inv_of_sentAlone (by simp [State.Framed, hst, hlen, hctx]) h
  · exact inv_of_gotoZppDispatch (hnext _) rfl hlen hctx h
  · exact inv_of_gotoZsuDecoderId (hnext _) rfl hlen hctx h

/-- A block count exists only for a positive data size, and never exceeds the 65536 of R22. -/
theorem blockCount_bounds {cfg : Config} {id : Byte} {q : Nat} (h : blockCount cfg b id = .ok q) :
    1 ≤ cfg.ds id ∧ q ≤ 65536 := by
  simp only [blockCount] at h
  split_ifs at h with hds hneg h32 <;> cases h <;> refine ⟨Nat.pos_of_ne_zero hds, ?_⟩
  all_goals
    have hb := b.isLt
    have hdiv := Nat.div_le_self (((b.toNat : Int) + 1) * 256 - (cfg.bl id : Int)).toNat (cfg.ds id)
  · rw [h32]; omega
  · omega

theorem inv_of_execZsuBlockCount (hs : s.Taking) (hst : s.st = .zsuBlockCount) (hlen : s.pktLen = 0) (hbc : s.bc = 0)
    (h : execZsuBlockCount b s = .next t) : Inv t := by
  have hframed : s.Framed := by simp [State.Framed, hst, hlen, hbc]
  obtain h | ⟨r, h⟩ | ⟨-, q, hq, h⟩ := execZsuBlockCount_eq_next h
  · exact hs.inv_of_sentAlone hframed h
  · exact h.inv (hs.sound.of_eq rfl rfl le_rfl) hs.tx hframed
  · obtain ⟨hds, hle⟩ := blockCount_bounds hq
    have hbits : (BitVec.ofNat 32 q).toNat ≤ 65536 := (Nat.mod_le _ _).trans hle
    exact h.inv (hs.sound.of_eq rfl rfl le_rfl) hs.tx ⟨hlen, hds, hbits⟩

/-- A security byte keeps what `Framed` says, advances to a state that asks no more, or resets the session. -/
theorem inv_of_security {x : St} (hs : s.Taking) (hframed : s.Framed)
    (h : SentAlone b s t ∨ (s.setSt x).EndsIn t ∨ s.sessionReset.EndsIn t) (hnext : (s.setSt x).Framed) : Inv t := by
  obtain h | h | h := h
  · exact hs.inv_of_sentAlone hframed h
  · exact h.inv (hs.sound.of_eq rfl rfl le_rfl) hs.tx hnext
  · exact h.inv (hs.sound.of_eq rfl rfl (Nat.zero_le _)) hs.tx ⟨rfl, rfl, rfl⟩

theorem State.framed_of_zsuBlocks (hst : s.st = .zsuBlocks) :
    s.Framed ↔ s.pktLen ≤ min (s.cfg.ds s.did + 1) s.cfg.maxFrame ∧ 1 ≤ s.cfg.ds s.did ∧ s.bc.toNat ≤ 65536 := by
  rw [State.Framed, hst]

theorem inv_of_zsuBlocks (hs : s.Taking) (hst : s.st = .zsuBlocks) (hframed : s.Framed) (h : receive b s = .next t) :
    Inv t := by
  obtain ⟨-, hds, hbc⟩ := (State.framed_of_zsuBlocks hst).mp hframed
  have hcleared : (s.store b).clear.Framed :=
    (State.framed_of_zsuBlocks (s := (s.store b).clear) hst).mpr ⟨Nat.zero_le _, hds, hbc⟩
  obtain h | ⟨hroom, -, h⟩ := receive_zsuBlocks hst h
  · refine hs.inv_of_collected h (fun _ => hframed) (fun hroom hmore => ?_)
      fun hsound ht => ht.inv (hsound.of_eq rfl rfl (Nat.zero_le _)) hs.tx hcleared
    have hlen : (s.store b).pktLen ≤ min (s.cfg.ds s.did + 1) s.cfg.maxFrame := le_min (by simp; omega) hroom
    exact (State.framed_of_zsuBlocks (s := s.store b) hst).mpr ⟨hlen, hds, hbc⟩
  · have hsound : (s.store b).clear.Sound := (hs.sound.store hroom b).of_eq rfl rfl (Nat.zero_le _)
    cases h with
    | underflows _ ht => exact ht.inv (hsound.of_eq rfl rfl le_rfl) hs.tx hcleared
    | last ht => exact ht.inv (hsound.of_eq rfl rfl le_rfl) hs.tx ⟨rfl, rfl, rfl⟩
    | counts hne ht =>
      have hcount : (s.bc - 1).toNat ≤ 65536 := by
        have hne : s.bc ≠ 0 := hne
        bv_omega
      exact ht.inv (hsound.of_eq rfl rfl le_rfl) hs.tx
        ((State.framed_of_zsuBlocks (s := (s.store b).clear.setBc (s.bc - 1)) hst).mpr ⟨Nat.zero_le _, hds, hcount⟩)

/-! ### Every step -/

/-- A byte keeps the invariant, in every state. -/
theorem Inv.of_receive (hi : Inv s) (hr : s.rxReady = true) (h : receive b s = .next t) : Inv t := by
  have hs := hi.taking hr
  have hframed := hi.framing hs.tx
  have hten := hs.sound.ten_le_maxFrame
  have hf := hframed
  have hget := h
  cases hst : s.st <;> simp only [State.Framed, hst] at hf <;> simp only [receive, hst] at hget
  case entry =>
    obtain h | h := receive_entry hst h
    · exact h.inv hs.sound hs.tx hframed
    · exact inv_of_gotoPreamble (s := s.setSt .preamble) (hs.of_eq rfl rfl le_rfl rfl rfl) rfl hf.1 hf.2 h
  case preamble => exact inv_of_gotoPreamble hs hst hf.1 hf.2 hget
  case zppDispatch => exact inv_of_gotoZppDispatch hs hst hf.1 hf.2 hget
  case zppReadCv => exact inv_of_gotoZppReadCv hst (hs.assembles_frame hf (by omega)) hget
  case zppWriteCv =>
    exact inv_of_gotoZppWriteCv hst
      (hf.imp (hs.assembles_frame · (by omega)) (hs.assembles_frame · (by omega))) hget
  case zppFlashErase => exact inv_of_gotoZppFlashErase hst (hs.assembles_frame hf (by omega)) hget
  case zppFlashWrite => exact inv_of_gotoZppFlashWrite hst (hs.assembles_frame hf (by omega)) hget
  case zppDecoderId => exact inv_of_gotoZppDecoderId hst (hs.assembles_frame hf (by omega)) hget
  case zppCrcOrXorQuery => exact inv_of_gotoZppCrcOrXorQuery hst (hs.assembles_frame hf (by omega)) hget
  case zsuDecoderId => exact inv_of_gotoZsuDecoderId hs hst hf.1 hf.2 hget
  case zsuBlockCount => exact inv_of_execZsuBlockCount hs hst hf.1 hf.2 hget
  case zsuSecurityByte1 => exact inv_of_security hs hframed (selectLiteral_eq_next hget) hf
  case zsuSecurityByte2 =>
    obtain ⟨hlen, hf⟩ := hf
    exact inv_of_security hs hframed (selectLiteral_eq_next hget) ⟨hlen ▸ Nat.zero_le _, hf⟩
  case zsuBlocks => exact inv_of_zsuBlocks hs hst hframed h

/-- The invariant does not read the environment. -/
theorem Inv.accept (hi : Inv s) (rest : List EnvEvent) (answer : Option Nat) : Inv (s.accept rest answer) :=
  ⟨hi.config, hi.canonical, hi.inRange, hi.capacity, hi.request, hi.framing⟩

theorem Inv.sessionReset (hi : Inv s) : Inv s.sessionReset :=
  ⟨hi.config, hi.canonical, hi.inRange, Nat.zero_le _, hi.request, fun _ => ⟨rfl, rfl, rfl⟩⟩

end

/-- Settles O42: an idle step changes nothing, the resets empty the packet and the context, and a byte keeps the
invariant in every state. -/
theorem everyStepKeepsTheInvariant : Obligations.EveryStepKeepsTheInvariant := by
  intro s t hi h
  obtain ⟨-, rfl⟩ | ⟨contents, rest, -, rfl⟩ | ⟨rest, -, -, rfl⟩ | ⟨b, answer, rest, -, hr, h⟩ := step_eq_next h
  · exact hi
  · exact inv_powerOn _ contents hi.config
  · exact (hi.accept rest s.txAns).sessionReset
  · exact (hi.accept rest answer).of_receive hr h

/-- Settles O43: power-on empties the packet and fills the storage canonically; at reset nothing is listed. -/
theorem powerOnMeetsTheInvariant : Obligations.PowerOnMeetsTheInvariant :=
  ⟨inv_powerOn, inv_powerOn State.reset [] (by decide)⟩

end Sys2Proof.Machine
end

section
/-! The codes on the ports (R20, R24, R65, R66, R202). -/

namespace Sys2Proof.Machine

/-- No fault reason has the code of `none` (R202). -/
theorem FaultReason.code_ne_zero (r : FaultReason) : r.code ≠ 0 := by
  cases r <;> decide

/-- `fault_out` is 0 exactly with no fault (R24). -/
theorem State.faultOut_eq_zero_iff (s : State) : s.faultOut = 0 ↔ s.fault = none := by
  unfold State.faultOut
  cases s.fault with
  | none => decide
  | some r => exact iff_of_false r.code_ne_zero nofun

theorem State.faultOut_of_fault {s : State} {r : FaultReason} (h : s.fault = some r) : s.faultOut = r.code := by
  simp [State.faultOut, h]

theorem stCode_le (x : St) : stCode x ≤ 13 := by
  cases x <;> decide

theorem opCode_le (x : TimeoutClass) : opCode x ≤ 11 := by
  cases x <;> decide

/-- A response is present exactly for ACK and NAK (R65). -/
theorem Response.isSome_iff (r : Response) : r.isSome = true ↔ r = .ack ∨ r = .nak := by
  cases r <;> decide

/-- Settles O57: the tables are read off the code functions, and the bounds hold value by value. -/
theorem portCodesAreThoseOfTheTables : Obligations.PortCodesAreThoseOfTheTables :=
  ⟨rfl, stCode_le, rfl, opCode_le, rfl, fun s => ⟨s.faultOut_eq_zero_iff, fun _ => State.faultOut_of_fault⟩,
    Response.isSome_iff⟩

end Sys2Proof.Machine
end

section
/-! The append at capacity (R41), and what a row that appends leaves alone (R41, R120, R168, R169). -/

namespace Sys2Proof.Machine

section
variable {b : Byte} {s t v done : State} {more : Prop}

/-! ### The rows of ZsuBlocks -/

theorem State.selects_zsuBlockByte (hs : s.st = .zsuBlocks) (hn : s.pktLen + 1 < s.cfg.ds s.did + 2) :
    s.ctx.selects (.zsuBlockByte b) = true := by
  simp [Ctx.selects, encode, decode, decodeByte, Ctx.selectBlocks, blockLen, hs, hn]

theorem State.selects_zsuBlockEnd (hs : s.st = .zsuBlocks) (hn : s.pktLen + 1 = s.cfg.ds s.did + 2) :
    s.ctx.selects (.zsuBlockEnd b) = true := by
  simp [Ctx.selects, encode, decode, decodeByte, Ctx.selectBlocks, blockLen, hs, hn]

/-- The decoder gives ZSU_BLOCK_END in ZsuBlocks only (R83). -/
theorem Ctx.st_eq_of_decode_zsuBlockEnd {c : Ctx} (h : decode c (.rx b) = .row (.zsuBlockEnd b)) :
    c.st = .zsuBlocks := by
  simp only [decode, decodeByte, Ctx.selectEntry, Ctx.selectPreamble, selectDispatch, Ctx.selectReadCv,
    Ctx.selectWriteCv, Ctx.selectErase, Ctx.selectFlashWrite, Ctx.selectProbes, selectLiteral] at h
  cases hs : c.st <;> simp only [hs] at h
  case zsuBlocks => rfl
  case zsuDecoderId | zsuBlockCount => cases h
  all_goals split_ifs at h <;> cases h

/-! ### What an append leaves alone -/

/-- What a row that appends leaves alone, whatever it does next: the configuration, the environment's side, and every
stored byte but the one at `len(pkt)`. -/
structure AppendFrame (s t : State) : Prop where
  cfg : t.cfg = s.cfg
  txAns : t.txAns = s.txAns
  env : t.env = s.env
  storage : ∀ a, a ≠ s.pktLen → t.pktMem.read a = s.pktMem.read a

/-- The rows that cannot accept a block leave the session context alone too, and fault only by an overflow. -/
structure CollectFrame (s t : State) : Prop extends AppendFrame s t where
  did : t.did = s.did
  bc : t.bc = s.bc
  fault : t.fault = s.fault ∨ s.cfg.maxFrame ≤ s.pktLen

theorem AppendFrame.of_endsIn (h : AppendFrame s v) (ht : v.EndsIn t) : AppendFrame s t := by
  obtain ⟨tr, x, -, rfl⟩ := ht
  exact ⟨h.cfg, h.txAns, h.env, h.storage⟩

theorem CollectFrame.of_endsIn (h : CollectFrame s v) (ht : v.EndsIn t) : CollectFrame s t := by
  refine ⟨h.toAppendFrame.of_endsIn ht, ht.did_eq.trans h.did, ht.bc_eq.trans h.bc, ?_⟩
  obtain ⟨tr, x, -, rfl⟩ := ht
  exact h.fault

/-- Storing the byte, and then writing `st` and the length in any way, writes no other byte (R41). -/
theorem CollectFrame.of_store (s : State) (b : Byte) (x : St) (n : Nat) :
    CollectFrame s { s.store b with st := x, pktLen := n } :=
  ⟨⟨rfl, rfl, rfl, fun _ ha => Memory.read_write_other _ b ha⟩, rfl, rfl, .inl rfl⟩

/-- At capacity nothing is written but `fault` (R41). -/
theorem CollectFrame.of_full (hfull : s.cfg.maxFrame ≤ s.pktLen) (r : FaultReason) : CollectFrame s (s.setFault r) :=
  ⟨⟨rfl, rfl, rfl, fun _ _ => rfl⟩, rfl, rfl, .inr hfull⟩

theorem CollectFrame.of_collected (h : Collected b s more done t) (hdone : CollectFrame s done) : CollectFrame s t := by
  have hstore : CollectFrame s (s.store b) := .of_store s b s.st (s.pktLen + 1)
  cases h with
  | overflow hfull ht => exact (CollectFrame.of_full hfull _).of_endsIn ht
  | waits _ _ _ _ ht => subst ht; exact ⟨⟨rfl, rfl, rfl, hstore.storage⟩, rfl, rfl, .inl rfl⟩
  | stays _ _ ht => exact hstore.of_endsIn ht
  | completes _ ht => exact hdone.of_endsIn ht

theorem Collected.st_eq (h : Collected b s more done t) (hdone : done.st = s.st) : t.st = s.st := by
  cases h with
  | overflow _ ht => exact ht.st_eq
  | waits _ _ _ _ ht => subst ht; rfl
  | stays _ _ ht => exact ht.st_eq
  | completes _ ht => exact ht.st_eq.trans hdone

/-- Accepting a block writes neither the storage nor what the environment gives (R169). -/
theorem AppendFrame.of_accepted (hv : AppendFrame s v) (h : Accepted v t) : AppendFrame s t := by
  cases h with
  | underflows _ ht | last ht | counts _ ht =>
    obtain ⟨tr, x, -, rfl⟩ := ht
    exact ⟨hv.cfg, hv.txAns, hv.env, hv.storage⟩

/-! ### The rows that append -/

/-- The rows that collect or probe end as a row that keeps collecting (R129 to R131, R133, R135, R138, R140, R142,
R168). -/
theorem Collected.of_exec_collecting {i : Instr}
    (hi : i = .zppReadCvFrameByte b ∨ i = .zppReadCvFrameEnd b ∨ i = .zppReadCvProbe b ∨ i = .zppWriteCvByte b ∨
      i = .zppEraseByte b ∨ i = .zppFlashWriteByte b ∨ i = .zppDecoderIdByte b ∨ i = .zppCrcXorByte b ∨
      i = .zsuBlockByte b)
    (h : exec i s = .next t) : Collected b s True (s.store b) t := by
  obtain rfl | rfl | rfl | rfl | rfl | rfl | rfl | rfl | rfl := hi
  all_goals
    dsimp only [exec] at h
    obtain ⟨-, -, h⟩ := runRow_eq_next h
  · exact .of_collect trivial h
  · exact .of_sent h (.inr rfl) fun _ _ hroom h => .stays hroom trivial (.of_answered (.of_respond h))
  · exact .of_probe trivial h
  · exact .of_collect trivial h
  · exact .of_collect trivial h
  · exact .of_collect trivial h
  · exact .of_probe trivial h
  · exact .of_probe trivial h
  · exact .of_collect trivial h

/-- The rows that end a ZPP operation append their byte and return to dispatch (R132, R134, R136, R137, R139, R141,
R143). -/
theorem CollectFrame.of_exec_completing {i : Instr}
    (hi : i = .zppReadCvLast b ∨ i = .zppWriteCvEnd b ∨ i = .zppEraseEndOk ∨ i = .zppEraseEndBad b ∨
      i = .zppFlashWriteEnd b ∨ i = .zppDecoderIdLast b ∨ i = .zppCrcXorLast b)
    (h : exec i s = .next t) : CollectFrame s t := by
  have hframe (b' : Byte) (hc : Collected b' s True (s.store b').toDispatch t) : CollectFrame s t :=
    .of_collected hc (.of_store s b' .zppDispatch 0)
  obtain rfl | rfl | rfl | rfl | rfl | rfl | rfl := hi
  all_goals
    dsimp only [exec] at h
    obtain ⟨-, -, h⟩ := runRow_eq_next h
  · exact hframe b (.of_lastProbe h)
  · exact hframe b (.of_frameEnd h)
  · exact hframe 0xFF (.of_frameEnd h)
  · exact hframe b (.of_append h fun hroom h => .completes hroom (.of_respond h))
  · exact hframe b (.of_frameEnd h)
  · exact hframe b (.of_lastProbe h)
  · exact hframe b (.of_lastProbe h)

/-- ZSU_BLOCK_END appends its byte and clears the packet, whatever the answer (R169). -/
theorem AppendFrame.of_exec_zsuBlockEnd (h : exec (.zsuBlockEnd b) s = .next t) : AppendFrame s t := by
  obtain ⟨-, hsel⟩ := exec_eq_next h
  have hd : decode s.ctx (.rx b) = .row (.zsuBlockEnd b) := beq_iff_eq.mp hsel
  rw [exec_eq_receive hd] at h
  have hcleared : CollectFrame s (s.store b).clear := .of_store s b s.st 0
  obtain h | ⟨-, -, h⟩ := receive_zsuBlocks (Ctx.st_eq_of_decode_zsuBlockEnd hd) h
  · exact (CollectFrame.of_collected h hcleared).toAppendFrame
  · exact hcleared.toAppendFrame.of_accepted h

end

/-- Settles O34: both rows of ZsuBlocks begin with an append, which at capacity writes the fault register only. -/
theorem appendAtCapacityStopsTheEngine : Obligations.AppendAtCapacityStopsTheEngine := by
  intro s b hr hs hlen
  refine ⟨fun hn => ?_, fun hn => ?_⟩
  · rw [exec, execZsuBlockByte, runRow_of_selects hr (State.selects_zsuBlockByte hs hn)]
    exact State.append_of_full hlen.ge
  · rw [exec, execZsuBlockEnd, runRow_of_selects hr (State.selects_zsuBlockEnd hs hn)]
    exact State.append_of_full hlen.ge

/-- Settles O40: a row that collects stays in its state, one that ends an operation or a block does not, and each stores
its byte at `len(pkt)` or overflows. -/
theorem frameOfRowsThatAppend : Obligations.FrameOfRowsThatAppend := by
  intro i s t b h
  refine ⟨fun hi => ?_, fun hi => ?_, ?_⟩
  · have hc := Collected.of_exec_collecting hi h
    obtain ⟨⟨hcfg, hans, henv, hmem⟩, hdid, hbc, hfault⟩ :=
      CollectFrame.of_collected hc (.of_store s b s.st (s.pktLen + 1))
    exact ⟨hc.st_eq rfl, hdid, hbc, hfault, hcfg, hans, henv, hmem⟩
  · obtain ⟨⟨hcfg, hans, henv, hmem⟩, hdid, hbc, hfault⟩ := CollectFrame.of_exec_completing hi h
    exact ⟨hdid, hbc, hfault, hcfg, hans, henv, hmem⟩
  · rintro rfl
    obtain ⟨hcfg, hans, henv, hmem⟩ := AppendFrame.of_exec_zsuBlockEnd h
    exact ⟨hcfg, hans, henv, hmem⟩

end Sys2Proof.Machine
end

section
/-! Two runs of a step side by side. They begin in two states that differ in stale bytes only (R53), and every primitive
that a handler is made of keeps them so; the same walk over the handlers bounds the length of each request (R46). -/

namespace Sys2Proof.Machine

/-! ### Two states reached in a step -/

/-- Two states that one step has reached side by side from the configuration and the trace of `o`: they differ in stale
bytes only, and what has gone out since has a legal length. -/
structure Twin (o s s' : State) : Prop where
  visible : SameVisible s s'
  cfg : s.cfg = o.cfg
  legal : ∀ q, .tx q ∈ s.trace → .tx q ∈ o.trace ∨ (1 ≤ q.bytes.length ∧ q.bytes.length ≤ max 1 s.cfg.maxFrame)

theorem SameVisible.exists_pktMem {s s' : State} (h : SameVisible s s') :
    ∃ m : Memory, s' = { s with pktMem := m } ∧ ∀ a < s.pktLen, m.read a = s.pktMem.read a :=
  ⟨s'.pktMem, h⟩

theorem SameVisible.twin {s s' : State} (h : SameVisible s s') : Twin s s s' := ⟨h, rfl, fun _ => .inl⟩

namespace Twin

section
variable {o s s' : State} (h : Twin o s s')
include h

/-! What a handler reads is the same in both. -/

theorem cfg_eq : s'.cfg = s.cfg := by rw [h.visible.1]
theorem st_eq : s'.st = s.st := by rw [h.visible.1]
theorem did_eq : s'.did = s.did := by rw [h.visible.1]
theorem bc_eq : s'.bc = s.bc := by rw [h.visible.1]
theorem pktLen_eq : s'.pktLen = s.pktLen := by rw [h.visible.1]
theorem txAns_eq : s'.txAns = s.txAns := by rw [h.visible.1]
theorem env_eq : s'.env = s.env := by rw [h.visible.1]
theorem rxReady_eq : s'.rxReady = s.rxReady := by rw [h.visible.1]; rfl
theorem stopReason_eq : s'.stopReason = s.stopReason := by rw [h.visible.1]; rfl
theorem pkt_eq : s'.pkt = s.pkt := State.pkt_congr h.pktLen_eq h.visible.2
theorem ctx_eq : s'.ctx = s.ctx := by simp [State.ctx, h.cfg_eq, h.st_eq, h.did_eq, h.pkt_eq]

/-! What a handler writes keeps them side by side. -/

/-- Register writes that do not touch the storage, do not lengthen the packet, and send nothing. -/
theorem map (f : State → State) (hf : ∀ m, f { s with pktMem := m } = { f s with pktMem := m } := by intro; rfl)
    (hlen : (f s).pktLen ≤ s.pktLen := by simp)
    (hcfg : (f s).cfg = s.cfg := by rfl) (htrace : (f s).trace = s.trace := by rfl) : Twin o (f s) (f s') := by
  obtain ⟨m, rfl, hm⟩ := h.visible.exists_pktMem
  have hmem : (f s).pktMem = s.pktMem := (congrArg State.pktMem (hf s.pktMem) :)
  rw [hf m]
  refine ⟨⟨rfl, fun a ha => ?_⟩, hcfg.trans h.cfg, by rw [htrace, hcfg]; exact h.legal⟩
  rw [hmem]
  exact hm a (ha.trans_le hlen)

theorem store (v : Byte) : Twin o (s.store v) (s'.store v) := by
  obtain ⟨m, rfl, hm⟩ := h.visible.exists_pktMem
  refine ⟨⟨rfl, fun a ha => ?_⟩, h.cfg, h.legal⟩
  obtain rfl | hne := eq_or_ne a s.pktLen
  · simp
  · have hlt : a < s.pktLen := lt_of_le_of_ne (Nat.le_of_lt_succ ha) hne
    simp [Memory.read_write_other _ v hne, hm a hlt]

theorem emit (r : Response) : Twin o (s.emit r) (s'.emit r) := by
  obtain ⟨m, rfl, hm⟩ := h.visible.exists_pktMem
  exact ⟨⟨rfl, hm⟩, h.cfg, fun q hq => h.legal q (by simpa using hq)⟩

theorem openTx {q : TxRequest} (hpos : 1 ≤ q.bytes.length) (hmax : q.bytes.length ≤ max 1 s.cfg.maxFrame) :
    Twin o (s.openTx q) (s'.openTx q) := by
  obtain ⟨m, rfl, hm⟩ := h.visible.exists_pktMem
  refine ⟨⟨rfl, hm⟩, h.cfg, fun q' hq' => ?_⟩
  obtain hq' | rfl : .tx q' ∈ s.trace ∨ q' = q := by simpa using hq'
  · exact h.legal q' hq'
  · exact .inr ⟨hpos, hmax⟩

theorem powerOn (contents : List Byte) : Twin o (s.powerOn contents) (s'.powerOn contents) := by
  obtain ⟨m, rfl, -⟩ := h.visible.exists_pktMem
  exact ⟨⟨rfl, fun _ _ => rfl⟩, h.cfg, h.legal⟩

end

end Twin

/-! ### Two outcomes, and the primitives -/

/-- Two outcomes side by side: the same stop, or two next states that are side by side. -/
inductive Abreast (o : State) : Result → Result → Prop
  | next {t t' : State} (h : Twin o t t') : Abreast o (.next t) (.next t')
  | fault (f : Fault) : Abreast o (.fault f) (.fault f)
  | refused (r : Refusal) : Abreast o (.refused r) (.refused r)

theorem Abreast.sameOutcome {o : State} {r r' : Result} (h : Abreast o r r') : SameOutcome r r' := by
  cases h with
  | next h => exact h.visible
  | fault f => exact rfl
  | refused r => exact rfl

namespace Twin

section
variable {o s s' : State} (h : Twin o s s')
include h

theorem respond (r : Response) : Abreast o (s.respond r) (s'.respond r) := .next (h.emit r)

theorem raise (r : FaultReason) : Abreast o (s.raise r) (s'.raise r) := .next (h.map (·.setFault r))

theorem runRow {i : Instr} {k : State → Result} (hk : Abreast o (k s) (k s')) :
    Abreast o (runRow i s k) (runRow i s' k) := by
  simp only [Machine.runRow, h.rxReady_eq, h.ctx_eq, h.stopReason_eq]
  split_ifs
  · exact hk
  · exact .refused _
  · exact .fault _

/-- Below capacity the handler goes on with at least one byte, and no more than the buffer holds (R41). -/
theorem append (v : Byte) {k : State → Result}
    (hk : ∀ {u u'}, Twin o u u' → 1 ≤ u.pktLen → u.pktLen ≤ u.cfg.maxFrame → Abreast o (k u) (k u')) :
    Abreast o (s.append v k) (s'.append v k) := by
  simp only [State.append, h.cfg_eq, h.pktLen_eq]
  split_ifs with hfull
  · exact h.raise _
  · exact hk (h.store v) (Nat.le_add_left 1 _) (Nat.lt_of_not_le hfull)

theorem transmit {bytes bytes' : List Byte} (hbytes : bytes' = bytes) (hpos : 1 ≤ bytes.length)
    (hmax : bytes.length ≤ max 1 s.cfg.maxFrame) (op : TimeoutClass) {k : Nat → State → Result}
    (hk : ∀ {u u'} p, Twin o u u' → Abreast o (k p u) (k p u')) :
    Abreast o (s.transmit bytes op k) (s'.transmit bytes' op k) := by
  subst hbytes
  have hopen := h.openTx (q := ⟨bytes', op⟩) hpos hmax
  unfold State.transmit
  rw [h.txAns_eq]
  cases s.txAns with
  | none => exact .next hopen
  | some p => exact hk _ (hopen.map State.closeTx)

theorem transmitByte (b : Byte) (op : TimeoutClass) {k : Nat → State → Result}
    (hk : ∀ {u u'} p, Twin o u u' → Abreast o (k p u) (k p u')) :
    Abreast o (s.transmit [b] op k) (s'.transmit [b] op k) :=
  h.transmit rfl le_rfl (le_max_left _ _) op hk

/-- The whole frame goes out: it is the same in both, since it is read below `len(pkt)` only (R44). -/
theorem transmitFrame (hpos : 1 ≤ s.pktLen) (hmax : s.pktLen ≤ s.cfg.maxFrame) (op : TimeoutClass)
    {k : Nat → State → Result} (hk : ∀ {u u'} p, Twin o u u' → Abreast o (k p u) (k p u')) :
    Abreast o (s.transmit s.pkt op k) (s'.transmit s'.pkt op k) :=
  h.transmit h.pkt_eq (by simpa using hpos) (by simp [hmax]) op hk

/-! ### The shapes of the rows -/

theorem collect (b : Byte) : Abreast o (collect b s) (collect b s') :=
  h.append b fun h _ _ => h.respond .none

theorem probe (b : Byte) (op : TimeoutClass) : Abreast o (probe b op s) (probe b op s') :=
  h.append b fun h _ _ => h.transmitByte b op fun _ h => h.respond _

theorem lastProbe (b : Byte) (op : TimeoutClass) : Abreast o (lastProbe b op s) (lastProbe b op s') :=
  h.append b fun h _ _ => h.transmitByte b op fun _ h => (h.map State.toDispatch).respond _

theorem frameEnd (b : Byte) (op : TimeoutClass) : Abreast o (frameEnd b op s) (frameEnd b op s') :=
  h.append b fun h hpos hmax => h.transmitFrame hpos hmax op fun _ h => (h.map State.toDispatch).respond _

theorem securityOk (b : Byte) (op : TimeoutClass) (next : St) :
    Abreast o (securityOk b op next s) (securityOk b op next s') :=
  h.transmitByte b op fun p h => by
    split_ifs
    · exact (h.map (·.setSt next)).respond _
    · exact h.respond _

theorem securityBad : Abreast o (securityBad s) (securityBad s') := (h.map State.sessionReset).respond .none

theorem acceptBlock (p : Nat) : Abreast o (acceptBlock p s) (acceptBlock p s') := by
  simp only [Machine.acceptBlock, h.bc_eq]
  split_ifs
  · exact h.raise _
  · exact (h.map fun s => (s.setBc _).sessionReset).respond _
  · exact (h.map (·.setBc _)).respond _

/-! ### The handlers -/

theorem gotoZppReadCv (b : Byte) : Abreast o (gotoZppReadCv b s) (gotoZppReadCv b s') := by
  simp only [Machine.gotoZppReadCv, Ctx.selectReadCv, h.ctx_eq]
  split_ifs
  · exact h.runRow (h.collect b)
  · exact h.runRow (h.append b fun h hpos hmax => h.transmitFrame hpos hmax _ fun _ h => h.respond _)
  · exact h.runRow (h.probe b _)
  · exact h.runRow (h.lastProbe b _)
  · exact .refused _

theorem gotoZppWriteCv (b : Byte) : Abreast o (gotoZppWriteCv b s) (gotoZppWriteCv b s') := by
  simp only [Machine.gotoZppWriteCv, Ctx.selectWriteCv, h.ctx_eq]
  split_ifs
  · exact h.runRow (h.collect b)
  · exact h.runRow (h.frameEnd b _)
  · exact .refused _

theorem gotoZppFlashErase (b : Byte) : Abreast o (gotoZppFlashErase b s) (gotoZppFlashErase b s') := by
  simp only [Machine.gotoZppFlashErase, Ctx.selectErase, h.ctx_eq]
  split_ifs
  · exact h.runRow (h.collect b)
  · exact h.runRow (h.frameEnd 0xFF _)
  · exact h.runRow (h.append b fun h _ _ => (h.map State.toDispatch).respond _)
  · exact .refused _

theorem gotoZppFlashWrite (b : Byte) : Abreast o (gotoZppFlashWrite b s) (gotoZppFlashWrite b s') := by
  simp only [Machine.gotoZppFlashWrite, Ctx.selectFlashWrite, h.ctx_eq]
  split_ifs
  · exact h.runRow (h.collect b)
  · exact h.runRow (h.frameEnd b _)
  · exact .refused _

/-- What the two probing handlers share (R140 to R143). -/
theorem selectProbes (b : Byte) (i i' : Instr) (op : TimeoutClass) :
    Abreast o
      (s.ctx.selectProbes (Machine.runRow i s (Machine.probe b op)) (Machine.runRow i' s (Machine.lastProbe b op))
        (.refused .noRow))
      (s'.ctx.selectProbes (Machine.runRow i s' (Machine.probe b op)) (Machine.runRow i' s' (Machine.lastProbe b op))
        (.refused .noRow)) := by
  simp only [Ctx.selectProbes, h.ctx_eq]
  split_ifs
  · exact h.runRow (h.probe b op)
  · exact h.runRow (h.lastProbe b op)
  · exact .refused _

/-- What the two security handlers share (R164 to R167). -/
theorem selectLiteral (b literal : Byte) (i i' : Instr) (op : TimeoutClass) (next : St) :
    Abreast o
      (selectLiteral b literal (Machine.runRow i s (Machine.securityOk literal op next))
        (Machine.runRow i' s Machine.securityBad))
      (selectLiteral b literal (Machine.runRow i s' (Machine.securityOk literal op next))
        (Machine.runRow i' s' Machine.securityBad)) := by
  unfold Sys2Proof.selectLiteral
  split_ifs
  · exact h.runRow (h.securityOk literal op next)
  · exact h.runRow h.securityBad

/-- A command is handed on with `st` written and the packet cleared (R120). -/
theorem gotoZppDispatch (b : Byte) : Abreast o (gotoZppDispatch b s) (gotoZppDispatch b s') := by
  have hnext (x : St) : Twin o (s.clear.setSt x) (s'.clear.setSt x) := h.map fun s => s.clear.setSt x
  unfold Machine.gotoZppDispatch selectDispatch
  split_ifs
  · exact h.runRow ((hnext _).gotoZppReadCv 0x01)
  · exact h.runRow ((hnext _).gotoZppWriteCv 0x02)
  · exact h.runRow ((hnext _).gotoZppFlashErase 0x03)
  · exact h.runRow ((hnext _).selectProbes 0x04 _ _ _)
  · exact h.runRow ((hnext _).gotoZppFlashWrite 0x05)
  · exact h.runRow ((hnext _).gotoZppWriteCv 0x06)
  · exact h.runRow ((hnext _).selectProbes 0x07 _ _ _)
  · exact h.runRow (h.respond _)

theorem gotoZsuDecoderId (b : Byte) : Abreast o (gotoZsuDecoderId b s) (gotoZsuDecoderId b s') := by
  unfold Machine.gotoZsuDecoderId
  refine h.runRow (h.transmitByte b _ fun p h => ?_)
  split_ifs
  · exact (h.map fun s => (s.setDid b).setSt .zsuBlockCount).respond _
  · exact h.respond _

theorem gotoPreamble (b : Byte) : Abreast o (gotoPreamble b s) (gotoPreamble b s') := by
  simp only [Machine.gotoPreamble, Ctx.selectPreamble, h.ctx_eq]
  split_ifs
  · exact h.runRow (h.transmitByte b _ fun _ h => h.respond _)
  · exact h.runRow ((h.map (·.setSt .zsuDecoderId)).gotoZsuDecoderId b)
  · exact h.runRow ((h.map (·.setSt .zppDispatch)).gotoZppDispatch b)

theorem execZsuBlockCount (b : Byte) : Abreast o (execZsuBlockCount b s) (execZsuBlockCount b s') :=
  h.runRow <| h.transmitByte b _ fun p h => by
    simp only [h.cfg_eq, h.did_eq]
    split_ifs
    · split
      · exact h.raise _
      · exact (h.map fun s => (s.setBc _).setSt .zsuSecurityByte1).respond _
    · exact h.respond _

theorem execZsuBlockEnd (b : Byte) : Abreast o (execZsuBlockEnd b s) (execZsuBlockEnd b s') :=
  h.runRow <| h.append b fun h hpos hmax => h.transmitFrame hpos hmax _ fun p h => by
    split_ifs
    · exact (h.map State.clear).acceptBlock p
    · exact (h.map State.clear).respond _

/-- A byte keeps two runs side by side, in every state. -/
theorem receive (b : Byte) : Abreast o (receive b s) (receive b s') := by
  simp only [Machine.receive, h.st_eq]
  cases s.st
  case entry =>
    simp only [Ctx.selectEntry, h.ctx_eq]
    split_ifs
    · exact h.runRow (h.respond _)
    · exact h.runRow ((h.map (·.setSt .preamble)).gotoPreamble b)
  case preamble => exact h.gotoPreamble b
  case zppDispatch => exact h.gotoZppDispatch b
  case zppReadCv => exact h.gotoZppReadCv b
  case zppWriteCv => exact h.gotoZppWriteCv b
  case zppFlashErase => exact h.gotoZppFlashErase b
  case zppFlashWrite => exact h.gotoZppFlashWrite b
  case zppDecoderId | zppCrcOrXorQuery => exact h.selectProbes b _ _ _
  case zsuDecoderId => exact h.gotoZsuDecoderId b
  case zsuBlockCount => exact h.execZsuBlockCount b
  case zsuSecurityByte1 | zsuSecurityByte2 => exact h.selectLiteral b _ _ _ _ _
  case zsuBlocks =>
    simp only [Ctx.selectBlocks, h.ctx_eq]
    split_ifs
    · exact h.runRow (h.collect b)
    · exact h.execZsuBlockEnd b
    · exact .refused _

/-- Every step does: it begins in both with the same action of the environment, and with the same row. -/
theorem step : Abreast o (step s) (step s') := by
  unfold Machine.step fetch
  rw [h.env_eq, h.rxReady_eq, h.stopReason_eq, h.ctx_eq, h.txAns_eq]
  match s.env with
  | [] =>
    dsimp only
    split_ifs
    · exact .next h
    · exact .fault _
  | .por contents :: rest => exact .next ((h.map (·.accept rest s.txAns)).powerOn contents)
  | .reset :: rest =>
    have hu := h.map (·.accept rest s.txAns)
    dsimp only
    split_ifs
    · exact hu.runRow (k := fun s => .next s.sessionReset) (.next (hu.map State.sessionReset))
    · exact .fault _
  | .rx b answer :: rest =>
    have hu := h.map (·.accept rest answer)
    dsimp only
    split_ifs
    · cases hd : decode s.ctx (.rx b) with
      | noRow => exact .refused _
      | row i =>
        dsimp only
        rw [exec_eq_receive (s := s.accept rest answer) hd,
          exec_eq_receive (s := s'.accept rest answer) (by rw [hu.ctx_eq]; exact hd)]
        exact hu.receive b
    · exact .fault _

end

end Twin

/-- Settles O55: a step keeps two runs side by side that differ in stale bytes only. -/
theorem staleBytesAreNeverObserved : Obligations.StaleBytesAreNeverObserved :=
  fun _ _ h => h.twin.step.sameOutcome

/-- Settles O53: a run is side by side with itself, and what goes out is one byte or a frame that the buffer held. -/
theorem everyRequestHasALegalLength : Obligations.EveryRequestHasALegalLength := by
  intro s t q hi h hq
  have hself : SameVisible s s := ⟨rfl, fun _ _ => rfl⟩
  have hstep := hself.twin.step
  rw [h] at hstep
  obtain ⟨ht⟩ := hstep
  have hten := hi.sound.ten_le_maxFrame
  refine (ht.legal q hq).imp_right fun ⟨hpos, hmax⟩ => ⟨hpos, ?_⟩
  rw [ht.cfg] at hmax
  omega

end Sys2Proof.Machine
end

section
/-! The decoder and the opcode table: the tests of the handlers in the table's terms, and that decoding and encoding
agree in both directions (R60, R70). -/

namespace Sys2Proof

section
variable {c : Ctx} {b : Byte} {i : Instr}

/-! ### The tests of the handlers in the table's terms -/

/-- The patterns of the two selecting rows are the two values of bit 7 (R61). -/
theorem patternFits_zpp (b : Byte) : patternFits b 0x80 0x00 = !bit7 b := by
  revert b; decide

theorem patternFits_zsu (b : Byte) : patternFits b 0x80 0x80 = bit7 b := by
  revert b; decide

/-- The command codes are the bytes 0x01 to 0x07 (R62). -/
theorem isCommand_eq_false_iff (b : Byte) :
    (decide (1 ≤ b.toNat) && decide (b.toNat ≤ 7)) = false ↔
      b ≠ 0x01 ∧ b ≠ 0x02 ∧ b ≠ 0x03 ∧ b ≠ 0x04 ∧ b ≠ 0x05 ∧ b ≠ 0x06 ∧ b ≠ 0x07 := by
  simp only [Bool.and_eq_false_iff, decide_eq_false_iff_not]
  bv_omega

/-- The length of a write-CV frame, as the handler and as the table reads it from the first byte (R133). -/
theorem tableWriteLen_first (c : Ctx) (b : Byte) :
    tableWriteLen (c.first b) = writeCvLen ((c.pkt ++ [b]).headD b) := rfl

/-- The security bytes of an erase frame, the last of which is the byte itself (R136). -/
theorem Ctx.eraseOk_eq_eraseSecure (hn : c.n = 4) (b : Byte) : eraseOk (c.pkt ++ [b]) = c.eraseSecure b := by
  obtain ⟨x, y, z, hpkt⟩ := List.length_eq_three.mp (Nat.succ.inj hn)
  simp [eraseOk, Ctx.eraseSecure, hpkt, Bool.and_assoc]

/-! ### Decode and encode -/

/-- Wherever the table's columns of a row hold, the handler of its state chooses it. -/
theorem decode_encode (h : WellFormed c i = true) : decode c (encode i) = .row i := by
  cases i <;>
    simp only [WellFormed, patternFits_zpp, patternFits_zsu, isCommand_eq_false_iff, Bool.and_eq_true,
      Bool.or_eq_true, Bool.not_eq_true', Bool.or_eq_false_iff, beq_iff_eq, beq_eq_false_iff_ne, bne_iff_ne,
      decide_eq_true_eq] at h
  all_goals simp only [encode, decode, decodeByte, h]
  case entrySkip | entryFallthrough => simp_all [Ctx.selectEntry]
  case prePreamble | preSelectZpp | preSelectZsu => simp [Ctx.selectPreamble, h]
  case zppCmdReadCv | zppCmdWriteCv | zppCmdFlashErase | zppCmdDecoderId | zppCmdFlashWrite | zppCmdWriteCvExt |
      zppCmdCrcXorQuery =>
    simp [selectDispatch]
  case zppCmdUnknown => simp_all [selectDispatch]
  case zppReadCvFrameByte =>
    have hn : c.n ≤ 2 := by omega
    simp [Ctx.selectReadCv, hn]
  case zppReadCvProbe =>
    have hn : ¬ c.n ≤ 2 ∧ c.n ≠ 3 ∧ c.n ≤ 9 := by omega
    simp [Ctx.selectReadCv, hn]
  case zppReadCvFrameEnd | zppReadCvLast => simp [Ctx.selectReadCv, h]
  case zppWriteCvByte | zppWriteCvEnd => simp [Ctx.selectWriteCv, ← tableWriteLen_first, h, -List.headD_eq_head?_getD]
  case zppEraseByte => simp [Ctx.selectErase, h]
  case zppEraseEndOk | zppEraseEndBad =>
    obtain ⟨⟨-, hn⟩, hsec⟩ := h
    simp_all [Ctx.selectErase, Ctx.eraseOk_eq_eraseSecure hn]
  case zppFlashWriteByte | zppFlashWriteEnd => simp [Ctx.selectFlashWrite, h]
  case zppDecoderIdByte | zppDecoderIdLast | zppCrcXorByte | zppCrcXorLast => simp [Ctx.selectProbes, h]
  case zsuSec1Ok | zsuSec1Bad | zsuSec2Ok | zsuSec2Bad => simp_all [selectLiteral]
  case zsuBlockByte | zsuBlockEnd => simp [Ctx.selectBlocks, blockLen, h]

/-- A row is chosen by the handler of its state only, for the byte of its encoding, and where its columns hold. -/
theorem wellFormed_of_decode {a : HostAction} (h : decode c a = .row i) : encode i = a ∧ WellFormed c i = true := by
  cases a with
  | reset => cases h; exact ⟨rfl, rfl⟩
  | rx b =>
    have hn : 1 ≤ c.n := Nat.succ_pos _
    simp only [decode, decodeByte] at h
    cases hs : c.st <;> simp only [hs] at h
    case entry =>
      unfold Ctx.selectEntry at h
      split_ifs at h with hb <;> cases h
      all_goals simp [encode, WellFormed, hs, hb]
    case preamble =>
      unfold Ctx.selectPreamble at h
      split_ifs at h with hcode hbit <;> cases h
      all_goals
        simp only [WellFormed, patternFits_zpp, patternFits_zsu]
        simp_all [encode]
    case zppDispatch =>
      unfold selectDispatch at h
      split_ifs at h <;> cases h
      case neg =>
        have hb := (isCommand_eq_false_iff b).mpr (by simp only [ne_eq, *]; decide)
        simp only [encode, WellFormed, hs, hb]
        decide
      all_goals simp_all [encode, WellFormed]
    case zppReadCv =>
      unfold Ctx.selectReadCv at h
      split_ifs at h <;> cases h <;> simp [encode, WellFormed, hs] <;> omega
    case zppWriteCv =>
      unfold Ctx.selectWriteCv at h
      split_ifs at h <;> cases h
      all_goals simp_all [encode, WellFormed, tableWriteLen_first]
    case zppFlashErase =>
      unfold Ctx.selectErase at h
      split_ifs at h with h3 h4 hok <;> cases h
      · simpa [encode, WellFormed, hs, h3] using hn
      · obtain rfl := Machine.eq_of_eraseOk (Nat.succ.inj h4) hok
        simp_all [encode, WellFormed, ← Ctx.eraseOk_eq_eraseSecure h4]
      · simp_all [encode, WellFormed, Ctx.eraseOk_eq_eraseSecure h4]
    case zppFlashWrite =>
      unfold Ctx.selectFlashWrite at h
      split_ifs at h <;> cases h
      all_goals simp [encode, WellFormed, *]
    case zppDecoderId | zppCrcOrXorQuery =>
      unfold Ctx.selectProbes at h
      split_ifs at h <;> cases h
      all_goals simp_all [encode, WellFormed]
    case zsuDecoderId | zsuBlockCount =>
      cases h
      simp [encode, WellFormed, hs]
    case zsuSecurityByte1 | zsuSecurityByte2 =>
      unfold selectLiteral at h
      split_ifs at h <;> cases h
      all_goals simp_all [encode, WellFormed]
    case zsuBlocks =>
      unfold Ctx.selectBlocks blockLen at h
      split_ifs at h <;> cases h
      all_goals simp [encode, WellFormed, *]

/-- Decoding and encoding are inverse to each other on the rows whose table columns hold. -/
theorem decode_eq_row_iff {a : HostAction} : decode c a = .row i ↔ encode i = a ∧ WellFormed c i = true :=
  ⟨wellFormed_of_decode, fun ⟨ha, h⟩ => ha ▸ decode_encode h⟩

/-- The decoder selects exactly the rows whose table columns hold (R70). -/
theorem Ctx.selects_iff : c.selects i = true ↔ WellFormed c i = true := by
  simp [Ctx.selects, decode_eq_row_iff]

end

/-- Settles O9: row by row, the columns are the test by which the handler of the row's state chooses it. -/
theorem decodeOfEncodeIsTheRow : Obligations.DecodeOfEncodeIsTheRow :=
  fun _ _ => decode_encode

/-- Settles O10: state by state, the test by which the handler chooses a row is the row's columns. -/
theorem decodedRowIsWellFormed : Obligations.DecodedRowIsWellFormed :=
  fun _ _ _ => wellFormed_of_decode

/-- Settles O8: each of the ten bytes is the encoding of a row whose columns hold there, whatever the configuration. -/
theorem writtenOutBytesDecodeToTheirRows : Obligations.WrittenOutBytesDecodeToTheirRows :=
  fun _ => ⟨decode_encode (i := .zppCmdReadCv) rfl, decode_encode (i := .zppCmdCrcXorQuery) rfl,
    decode_encode (i := .zppCmdUnknown 0x08) rfl, decode_encode (i := .zppReadCvFrameEnd 0x08) rfl,
    decode_encode (i := .zppWriteCvEnd 0x03) rfl, decode_encode (i := .zppWriteCvByte 0x02) rfl,
    decode_encode (i := .zppEraseEndOk) rfl, decode_encode (i := .zppEraseEndBad 0xFF) rfl,
    decode_encode (i := .zsuSec1Ok) rfl, decode_encode (i := .zsuSec2Bad 0x55) rfl⟩

end Sys2Proof
end

section
/-! Within the frame bounds a row covers every byte (R29, R70), and a ready engine takes every action of the host (R60,
R207). -/

namespace Sys2Proof

/-! ### The counts that the rows cover -/

/-- The count that the buffer holds with `b` is not beyond that of the state's longest row; a state whose rows read no
count covers every one (R70). -/
def Ctx.Covers (c : Ctx) (b : Byte) : Prop :=
  match c.st with
  | .zppReadCv => c.n ≤ 10
  | .zppWriteCv => c.n ≤ tableWriteLen (c.first b)
  | .zppFlashErase => c.n ≤ 4
  | .zppFlashWrite => c.n ≤ c.cfg.maxFrame
  | .zppDecoderId | .zppCrcOrXorQuery => c.n ≤ 8
  | .zsuBlocks => c.n ≤ blockLen c.cfg c.did
  | _ => True

section
variable {c : Ctx} {b : Byte}

theorem Ctx.Covers.exists_row (h : c.Covers b) : ∃ i, decode c (.rx b) = .row i := by
  unfold Ctx.Covers at h
  simp only [decode, decodeByte]
  cases hs : c.st <;> simp only [hs, tableWriteLen_first] at h ⊢
  case zsuDecoderId | zsuBlockCount => exact ⟨_, rfl⟩
  all_goals
    simp only [Ctx.selectEntry, Ctx.selectPreamble, selectDispatch, Ctx.selectReadCv, Ctx.selectWriteCv,
      Ctx.selectErase, Ctx.selectFlashWrite, Ctx.selectProbes, selectLiteral, Ctx.selectBlocks]
    split_ifs
  any_goals exact ⟨_, rfl⟩
  all_goals omega

theorem Config.WellFormed.one_le_maxFrame {cfg : Config} (h : cfg.WellFormed) : 1 ≤ cfg.maxFrame := by
  obtain ⟨-, -, -, -, hmax⟩ := h
  omega

theorem five_le_tableWriteLen (first : Byte) : 5 ≤ tableWriteLen first := by
  unfold tableWriteLen
  split_ifs <;> omega

/-- The first byte of a frame is covered in every state. -/
theorem Ctx.Covers.of_pkt_nil (hpkt : c.pkt = []) (hmax : 1 ≤ c.cfg.maxFrame) : c.Covers b := by
  have hn : c.n = 1 := by simp [Ctx.n, hpkt]
  have hwrite := five_le_tableWriteLen (c.first b)
  unfold Ctx.Covers blockLen
  cases c.st <;> simp only [hn] <;> omega

end

/-- The number of handlers that a byte received in a state can be handed on to (R84). -/
def St.handOns : St → Nat
  | .entry => 3
  | .preamble => 2
  | .zppDispatch => 1
  | _ => 0

namespace Machine

section
variable {s : State} {b cmd : Byte} {rest : List EnvEvent}

theorem State.Frame.first_eq {lo hi : Nat} (h : s.Frame cmd lo hi) (b : Byte) : s.ctx.first b = cmd := by
  obtain ⟨-, -, hhead, -⟩ := h
  simp [Ctx.first, hhead]

/-- The bounds of R29 end one byte below the longest row of each state. -/
theorem State.Framed.covers (h : s.Framed) (hmax : 1 ≤ s.cfg.maxFrame) (b : Byte) : s.ctx.Covers b := by
  unfold State.Framed at h
  unfold Ctx.Covers
  simp only [State.ctx_st, State.ctx_n, State.ctx_cfg, State.ctx_did]
  cases hs : s.st <;> simp only [hs] at h ⊢
  case zppWriteCv =>
    obtain h | h := h
    all_goals
      rw [h.first_eq]
      obtain ⟨-, hlen, -⟩ := h
      exact Nat.succ_le_succ hlen
  case zsuBlocks =>
    obtain ⟨hlen, -⟩ := h
    exact Nat.succ_le_succ (hlen.trans (min_le_left _ _))
  all_goals
    obtain ⟨-, hlen, -⟩ := h
    omega

/-! ### The rows that take their byte -/

/-- The action is taken: the result is a next state, not a stop, and in it the environment still has `rest` to do. -/
def Takes (rest : List EnvEvent) (r : Result) : Prop := ∃ t, r = .next t ∧ t.env = rest

theorem Takes.respond {r : Response} (henv : s.env = rest := by rfl) : Takes rest (s.respond r) := ⟨_, rfl, henv⟩

theorem Takes.raise {r : FaultReason} (henv : s.env = rest := by rfl) : Takes rest (s.raise r) := ⟨_, rfl, henv⟩

theorem Takes.append {k : State → Result} (hk : Takes rest (k (s.store b))) (henv : s.env = rest := by rfl) :
    Takes rest (s.append b k) := by
  obtain hfull | hroom := le_or_gt s.cfg.maxFrame s.pktLen
  · exact State.append_of_full hfull ▸ .raise henv
  · exact State.append_of_lt hroom ▸ hk

theorem Takes.transmit {bytes : List Byte} {op : TimeoutClass} {k : Nat → State → Result}
    (hk : ∀ p q, Takes rest (k p (s.openTx q).closeTx)) (henv : s.env = rest := by rfl) :
    Takes rest (s.transmit bytes op k) := by
  cases ha : s.txAns with
  | none => exact ⟨_, State.transmit_of_silence ha, henv⟩
  | some p => exact State.transmit_of_answer ha ▸ hk _ _

theorem Takes.runRow {i : Instr} {k : State → Result} (hr : s.rxReady = true) (hsel : s.ctx.selects i = true)
    (hk : Takes rest (k s)) : Takes rest (runRow i s k) :=
  runRow_of_selects hr hsel ▸ hk

theorem Takes.collect : Takes s.env (collect b s) := .append .respond

theorem Takes.probe {op : TimeoutClass} : Takes s.env (probe b op s) := .append (.transmit fun _ _ => .respond)

theorem Takes.lastProbe {op : TimeoutClass} : Takes s.env (lastProbe b op s) := .append (.transmit fun _ _ => .respond)

theorem Takes.frameEnd {op : TimeoutClass} : Takes s.env (frameEnd b op s) := .append (.transmit fun _ _ => .respond)

theorem Takes.securityOk {op : TimeoutClass} {next : St} : Takes s.env (securityOk b op next s) :=
  .transmit fun _ _ => by split_ifs <;> exact .respond

theorem Takes.securityBad : Takes s.env (securityBad s) := .respond

theorem Takes.acceptBlock {p : Nat} (henv : s.env = rest := by rfl) : Takes rest (acceptBlock p s) := by
  unfold Machine.acceptBlock
  split_ifs
  · exact .raise henv
  · exact .respond henv
  · exact .respond henv

/-- Every row takes its byte where the decoder selects it. A row that hands it on does because the receiving state
covers it, and the row selected there can hand it on to fewer handlers. -/
theorem Takes.exec (i : Instr) (s : State) (hmax : 1 ≤ s.cfg.maxFrame) (hr : s.rxReady = true)
    (hsel : s.ctx.selects i = true) : Takes s.env (exec i s) := by
  have hwf := Ctx.selects_iff.mp hsel
  have receives (b : Byte) (u : State) (hu : u.st.handOns < s.st.handOns) (hcfg : u.cfg = s.cfg)
      (hready : u.rxReady = s.rxReady) (hcov : u.ctx.Covers b) : Takes u.env (receive b u) := by
    obtain ⟨i', hd⟩ := hcov.exists_row
    obtain ⟨-, hwf'⟩ := wellFormed_of_decode hd
    rw [← exec_eq_receive hd]
    exact Takes.exec i' u (hcfg ▸ hmax) (hready.trans hr) (Ctx.selects_iff.mpr hwf')
  have command (b : Byte) (x : St) (hs : (s.st == .zppDispatch) = true) (hx : x.handOns = 0) :
      Takes s.env (receive b (s.clear.setSt x)) :=
    receives b (s.clear.setSt x) (by rw [State.setSt_st, hx, beq_iff_eq.mp hs]; decide) rfl rfl (.of_pkt_nil rfl hmax)
  cases i <;> dsimp only [Machine.exec] <;> refine .runRow hr hsel ?_
  case entrySkip => exact .respond
  case entryFallthrough b =>
    have hs : s.st = .entry := by simp_all [WellFormed]
    exact receives b (s.setSt .preamble) (by simp [hs, St.handOns]) rfl rfl trivial
  case prePreamble => exact .transmit fun _ _ => .respond
  case preSelectZpp b =>
    have hs : s.st = .preamble := by simp_all [WellFormed]
    exact receives b (s.setSt .zppDispatch) (by simp [hs, St.handOns]) rfl rfl trivial
  case preSelectZsu b =>
    have hs : s.st = .preamble := by simp_all [WellFormed]
    exact receives b (s.setSt .zsuDecoderId) (by simp [hs, St.handOns]) rfl rfl trivial
  case zppCmdReadCv => exact command 0x01 .zppReadCv hwf rfl
  case zppCmdWriteCv => exact command 0x02 .zppWriteCv hwf rfl
  case zppCmdFlashErase => exact command 0x03 .zppFlashErase hwf rfl
  case zppCmdDecoderId => exact command 0x04 .zppDecoderId hwf rfl
  case zppCmdFlashWrite => exact command 0x05 .zppFlashWrite hwf rfl
  case zppCmdWriteCvExt => exact command 0x06 .zppWriteCv hwf rfl
  case zppCmdCrcXorQuery => exact command 0x07 .zppCrcOrXorQuery hwf rfl
  case zppCmdUnknown => exact .respond
  case zppReadCvFrameByte | zppWriteCvByte | zppEraseByte | zppFlashWriteByte | zsuBlockByte => exact .collect
  case zppReadCvFrameEnd => exact .append (.transmit fun _ _ => .respond)
  case zppReadCvProbe | zppDecoderIdByte | zppCrcXorByte => exact .probe
  case zppReadCvLast | zppDecoderIdLast | zppCrcXorLast => exact .lastProbe
  case zppWriteCvEnd | zppFlashWriteEnd | zppEraseEndOk => exact .frameEnd
  case zppEraseEndBad => exact .append .respond
  case zsuDecoderId => exact .transmit fun _ _ => by split_ifs <;> exact .respond
  case zsuBlockCount =>
    refine .transmit fun _ _ => ?_
    split_ifs
    · split
      · exact .raise
      · exact .respond
    · exact .respond
  case zsuSec1Ok | zsuSec2Ok => exact .securityOk
  case zsuSec1Bad | zsuSec2Bad => exact .securityBad
  case zsuBlockEnd =>
    refine .append (.transmit fun _ _ => ?_)
    split_ifs
    · exact .acceptBlock
    · exact .respond
  case hostReset => exact ⟨_, rfl, rfl⟩
termination_by s.st.handOns

end

/-- Settles O11: within the bounds the count is one that the rows of the state cover. -/
theorem rowsCoverEveryByteWithinTheFrameBounds : Obligations.RowsCoverEveryByteWithinTheFrameBounds := by
  intro s a hcfg hframed
  cases a with
  | reset => exact ⟨_, rfl⟩
  | rx b => exact (hframed.covers (hcfg.one_le_maxFrame) b).exists_row

/-- Settles O44: the invariant bounds the frame, so the decoder gives a row for the action, and every row takes it. -/
theorem everyHostActionIsTaken : Obligations.EveryHostActionIsTaken := by
  intro s rest hi hr
  have hmax := hi.config.one_le_maxFrame
  have hframed := hi.framing (s.rxReady_iff.mp hr).2
  refine ⟨fun b answer he => ?_, fun he => ?_⟩
  · obtain ⟨i, hd⟩ := (hframed.covers hmax b).exists_row
    obtain ⟨-, hwf⟩ := wellFormed_of_decode hd
    have hstep : step s = exec i (s.accept rest answer) := by simp [step, fetch, he, hr, hd]
    exact hstep ▸ Takes.exec i (s.accept rest answer) hmax hr (Ctx.selects_iff.mpr hwf)
  · have hstep : step s = exec .hostReset (s.accept rest s.txAns) := by simp [step, fetch, he, hr]
    exact hstep ▸ Takes.exec .hostReset (s.accept rest s.txAns) hmax hr rfl

end Machine
end Sys2Proof
end

section
/-! The response mapper (R80), what a ready engine's step is for each action of the host (R82, R83, R87, R92), and the host
reset (R87, R88). -/

namespace Sys2Proof.Machine

/-! ### The response mapper -/

theorem mapPulses_eq_nak_iff {p : Nat} : mapPulses p = .nak ↔ p = 1 := by
  unfold mapPulses
  split_ifs <;> simp_all

theorem mapPulses_eq_ack_iff {p : Nat} : mapPulses p = .ack ↔ p = 2 := by
  unfold mapPulses
  split_ifs <;> simp_all

theorem mapPulses_eq_none_iff {p : Nat} : mapPulses p = .none ↔ p ≠ 1 ∧ p ≠ 2 := by
  unfold mapPulses
  split_ifs <;> simp_all

/-! ### A step of a ready engine -/

section
variable {s : State} (hr : s.rxReady = true)
include hr

theorem step_of_rx {b : Byte} {answer : Option Nat} {rest : List EnvEvent} {i : Instr} (he : s.env = .rx b answer :: rest)
    (hd : decode s.ctx (.rx b) = .row i) : step s = exec i (s.accept rest answer) := by
  simp [step, fetch, he, hr, hd]

theorem step_of_reset {rest : List EnvEvent} (he : s.env = .reset :: rest) :
    step s = exec .hostReset (s.accept rest s.txAns) := by
  simp [step, fetch, he, hr]

theorem step_of_idle (he : s.env = []) : step s = .next s := by
  simp [step, fetch, he, hr]

/-- The decoder selects the host reset in every state. -/
theorem exec_hostReset : exec .hostReset s = .next s.sessionReset := by
  rw [exec, execHostReset, runRow_of_selects hr rfl]

end

/-- Settles O1: each answer of the mapper has its counts. -/
theorem responseMapperIsTotalAndExact : Obligations.ResponseMapperIsTotalAndExact :=
  fun _ _ => ⟨mapPulses_eq_nak_iff, mapPulses_eq_ack_iff, mapPulses_eq_none_iff, rfl, rfl⟩

/-- Settles O3: a step of a ready engine takes the action from `env` and runs the decoded row. -/
theorem stepRunsTheDecodedRow : Obligations.StepRunsTheDecodedRow :=
  fun _ _ hr => ⟨fun _ _ _ => step_of_rx hr, step_of_reset hr⟩

/-- Settles O4: with nothing pending the step of a ready engine is the idle one. -/
theorem idleEngineHoldsEveryRegister : Obligations.IdleEngineHoldsEveryRegister :=
  fun _ => step_of_idle

/-- Settles O36: the row is selected in every state, and all it does is the reset of the session. -/
theorem hostResetClearsTheSession : Obligations.HostResetClearsTheSession :=
  fun _ => exec_hostReset

/-- Settles O37: the reset leaves the engine ready, and resetting the session again changes nothing. -/
theorem hostResetIsIdempotent : Obligations.HostResetIsIdempotent :=
  fun s hr => ⟨s.sessionReset, exec_hostReset hr, exec_hostReset (s := s.sessionReset) hr, rfl, rfl, rfl, rfl⟩

end Sys2Proof.Machine
end

section
/-! What a row that hands its byte on leaves alone (R84): on the way to ZPP it is a row that appends to the cleared packet
(R120), on the way to ZSU or to the preamble codes a row that sends its byte alone (R102, R104). -/

namespace Sys2Proof.Machine

section
variable {b : Byte} {s t v : State}

/-! ### On the way to ZPP -/

/-- What is left alone does not depend on the state register written before. -/
theorem CollectFrame.of_setSt {x : St} (h : CollectFrame (s.setSt x) t) : CollectFrame s t :=
  ⟨⟨h.cfg, h.txAns, h.env, h.storage⟩, h.did, h.bc, h.fault⟩

/-- A command byte is appended to the cleared packet, and an unknown one is dropped (R120, R128). -/
theorem CollectFrame.of_gotoZppDispatch (h : gotoZppDispatch b s = .next t) : CollectFrame s.clear t := by
  have hcommand (x : St) {more : Prop}
      (hc : Collected b (s.clear.setSt x) more ((s.clear.setSt x).store b).toDispatch t) : CollectFrame s.clear t :=
    (CollectFrame.of_collected hc (.of_store _ b .zppDispatch 0)).of_setSt
  obtain h | ⟨-, h⟩ | ⟨-, h⟩ | ⟨-, h⟩ | ⟨-, h⟩ | ⟨-, h⟩ | ⟨-, h⟩ := gotoZppDispatch_eq_next h
  · exact CollectFrame.of_endsIn (v := s) ⟨⟨rfl, rfl, rfl, fun _ _ => rfl⟩, rfl, rfl, .inl rfl⟩ h
  · exact hcommand _ (gotoZppReadCv_eq_next h)
  · exact hcommand _ (gotoZppWriteCv_eq_next h)
  · exact hcommand _ (gotoZppFlashErase_eq_next h)
  · exact hcommand _ (gotoZppDecoderId_eq_next h)
  · exact hcommand _ (gotoZppFlashWrite_eq_next h)
  · exact hcommand _ (gotoZppCrcOrXorQuery_eq_next h)

/-- Each of the seven commands is what ZppDispatch does with its code (R121 to R127), and PRE_SELECT_ZPP hands its byte on to
ZppDispatch (R103). -/
theorem CollectFrame.of_exec_handOn {i : Instr}
    (hi : i = .zppCmdReadCv ∨ i = .zppCmdWriteCv ∨ i = .zppCmdFlashErase ∨ i = .zppCmdDecoderId ∨ i = .zppCmdFlashWrite ∨
      i = .zppCmdWriteCvExt ∨ i = .zppCmdCrcXorQuery ∨ i = .preSelectZpp b)
    (h : exec i s = .next t) : CollectFrame s.clear t := by
  obtain rfl | rfl | rfl | rfl | rfl | rfl | rfl | rfl := hi
  · exact .of_gotoZppDispatch (b := 0x01) h
  · exact .of_gotoZppDispatch (b := 0x02) h
  · exact .of_gotoZppDispatch (b := 0x03) h
  · exact .of_gotoZppDispatch (b := 0x04) h
  · exact .of_gotoZppDispatch (b := 0x05) h
  · exact .of_gotoZppDispatch (b := 0x06) h
  · exact .of_gotoZppDispatch (b := 0x07) h
  · dsimp only [exec] at h
    obtain ⟨-, -, h⟩ := runRow_eq_next h
    exact (CollectFrame.of_gotoZppDispatch h).of_setSt (s := s.clear)

/-! ### On the way to ZSU and to the preamble codes -/

/-- What a row that sends its byte alone leaves alone: all but `st`, `did` and the transmitter's side. -/
structure SendFrame (s t : State) : Prop where
  cfg : t.cfg = s.cfg
  txAns : t.txAns = s.txAns
  env : t.env = s.env
  pktMem : t.pktMem = s.pktMem
  pktLen : t.pktLen = s.pktLen
  bc : t.bc = s.bc
  fault : t.fault = s.fault

theorem SendFrame.of_endsIn (h : SendFrame s v) (ht : v.EndsIn t) : SendFrame s t := by
  obtain ⟨tr, x, -, rfl⟩ := ht
  exact ⟨h.cfg, h.txAns, h.env, h.pktMem, h.pktLen, h.bc, h.fault⟩

theorem SendFrame.of_setSt (s : State) (x : St) : SendFrame s (s.setSt x) := ⟨rfl, rfl, rfl, rfl, rfl, rfl, rfl⟩

theorem SendFrame.of_sentAlone (h : SendFrame s v) (ht : SentAlone b v t) : SendFrame s t := by
  obtain ⟨op, rfl⟩ | ht := ht
  · exact ⟨h.cfg, h.txAns, h.env, h.pktMem, h.pktLen, h.bc, h.fault⟩
  · exact h.of_endsIn ht

/-- A confirmed identifier writes `st` and `did` only (R162). -/
theorem SendFrame.of_gotoZsuDecoderId (h : SendFrame s v) (ht : gotoZsuDecoderId b v = .next t) : SendFrame s t := by
  obtain ht | ⟨-, ht⟩ := gotoZsuDecoderId_eq_next ht
  · exact h.of_sentAlone ht
  · exact SendFrame.of_endsIn (v := (v.setDid b).setSt .zsuBlockCount)
      ⟨h.cfg, h.txAns, h.env, h.pktMem, h.pktLen, h.bc, h.fault⟩ ht

theorem SendFrame.of_exec_preSelectZsu (h : exec (.preSelectZsu b) s = .next t) : SendFrame s t := by
  dsimp only [exec] at h
  obtain ⟨-, -, h⟩ := runRow_eq_next h
  exact (SendFrame.of_setSt s .zsuDecoderId).of_gotoZsuDecoderId h

/-- A byte that falls through Entry goes one of the two ways (R101). -/
theorem frame_of_exec_entryFallthrough (h : exec (.entryFallthrough b) s = .next t) :
    CollectFrame s.clear t ∨ SendFrame s t := by
  dsimp only [exec] at h
  obtain ⟨-, -, h⟩ := runRow_eq_next h
  obtain h | h | h := gotoPreamble_eq_next h
  · exact .inr ((SendFrame.of_setSt s .preamble).of_sentAlone h)
  · exact .inl ((CollectFrame.of_gotoZppDispatch h).of_setSt (s := s.clear))
  · exact .inr ((SendFrame.of_setSt s .zsuDecoderId).of_gotoZsuDecoderId h)

end

/-- Settles O41: the ZPP rows append to the cleared packet, at index 0, with no room only where `MAX_FRAME` is 0;
PRE_SELECT_ZSU stores nothing; ENTRY_FALLTHROUGH does the one or the other. -/
theorem frameOfRowsThatHandOn : Obligations.FrameOfRowsThatHandOn := by
  intro i s t b h
  refine ⟨fun hi => ?_, ?_, ?_⟩
  · obtain ⟨⟨hcfg, hans, henv, hmem⟩, hdid, hbc, hfault⟩ := CollectFrame.of_exec_handOn hi h
    exact ⟨hdid, hbc, hfault.imp_right Nat.le_zero.mp, hcfg, hans, henv, hmem⟩
  · rintro rfl
    obtain ⟨hcfg, hans, henv, hmem, hlen, hbc, hfault⟩ := SendFrame.of_exec_preSelectZsu h
    exact ⟨hbc, hfault, hlen, hcfg, hans, henv, fun a => by rw [hmem]⟩
  · rintro rfl
    obtain ⟨⟨hcfg, hans, henv, hmem⟩, -, hbc, hfault⟩ | ⟨hcfg, hans, henv, hmem, -, hbc, hfault⟩ :=
      frame_of_exec_entryFallthrough h
    · exact ⟨hbc, hfault.imp_right Nat.le_zero.mp, hcfg, hans, henv, hmem⟩
    · exact ⟨hbc, .inl hfault, hcfg, hans, henv, fun a _ => by rw [hmem]⟩

end Sys2Proof.Machine
end

section
/-! What a step adds to the trace (R49, R85, R86, R203): at most one request, then at most one response, and the response
exactly where the engine is left ready. -/

namespace Sys2Proof.Machine

section
variable {s t : State} {b : Byte} {tr : List Event}

/-- A byte that no row covers is refused by its handler. -/
theorem receive_of_noRow {x : St} {n : Nat} (hd : decode s.ctx (.rx b) = .noRow x n) :
    receive b s = .refused .noRow := by
  unfold receive
  simp only [decode, decodeByte, State.ctx_st] at hd
  cases hs : s.st <;> simp only [hs] at hd ⊢
  case zsuDecoderId | zsuBlockCount => cases hd
  all_goals
    simp only [gotoZppReadCv, gotoZppWriteCv, gotoZppFlashErase, gotoZppFlashWrite, gotoZppDecoderId,
      gotoZppCrcOrXorQuery, Ctx.selectEntry, Ctx.selectPreamble, selectDispatch, Ctx.selectReadCv, Ctx.selectWriteCv,
      Ctx.selectErase, Ctx.selectFlashWrite, Ctx.selectProbes, selectLiteral, Ctx.selectBlocks] at hd ⊢
    split_ifs at hd ⊢ <;> rfl

/-! ### How a step closes -/

/-- How a handler closes from the trace `tr`: it leaves the engine stopped or waiting with nothing added, or ready with one
response added; or the row was not taken. -/
inductive Closes (tr : List Event) : Result → Prop
  | stops {u : State} (hready : u.rxReady = false) (htrace : u.trace = tr) : Closes tr (.next u)
  | answers {u : State} (r : Response) (hready : u.rxReady = true) (htrace : u.trace = tr ++ [.rsp r]) :
      Closes tr (.next u)
  | fault (f : Fault) : Closes tr (.fault f)
  | refused (r : Refusal) : Closes tr (.refused r)

/-- A whole transaction from the trace `tr`: the handler closes with no request sent, or after one. -/
inductive Transacts (tr : List Event) (o : Result) : Prop
  | silent (h : Closes tr o)
  | sent (q : TxRequest) (h : Closes (tr ++ [.tx q]) o)

theorem Closes.respond {r : Response} (hr : s.rxReady = true) (htrace : s.trace = tr := by rfl) :
    Closes tr (s.respond r) :=
  .answers r hr (htrace ▸ rfl)

theorem Closes.raise {r : FaultReason} (htrace : s.trace = tr := by rfl) : Closes tr (s.raise r) :=
  .stops (by simp [State.rxReady]) htrace

theorem Closes.acceptBlock {p : Nat} (hr : s.rxReady = true) : Closes s.trace (acceptBlock p s) := by
  unfold Machine.acceptBlock
  split_ifs
  · exact .raise
  · exact .respond hr
  · exact .respond hr

theorem Transacts.append {k : State → Result} (hk : Transacts s.trace (k (s.store b))) :
    Transacts s.trace (s.append b k) := by
  obtain hfull | hroom := le_or_gt s.cfg.maxFrame s.pktLen
  · exact State.append_of_full hfull ▸ .silent .raise
  · exact State.append_of_lt hroom ▸ hk

/-- The one request of a transaction: unanswered it stays on the port, answered it leaves the port free again. -/
theorem Transacts.transmit {bytes : List Byte} {op : TimeoutClass} {k : Nat → State → Result} (hr : s.rxReady = true)
    (hk : ∀ p u, u.rxReady = true → Closes u.trace (k p u)) : Transacts s.trace (s.transmit bytes op k) := by
  refine .sent ⟨bytes, op⟩ ?_
  cases ha : s.txAns with
  | none => exact State.transmit_of_silence ha ▸ .stops (by simp [State.rxReady]) rfl
  | some p =>
    obtain ⟨hfault, -⟩ := s.rxReady_iff.mp hr
    have hready : (s.openTx ⟨bytes, op⟩).closeTx.rxReady = true := (State.rxReady_iff _).mpr ⟨hfault, rfl⟩
    exact State.transmit_of_answer ha ▸ hk _ _ hready

theorem Transacts.runRow {i : Instr} {k : State → Result}
    (hk : s.rxReady = true → s.ctx.selects i = true → Transacts tr (k s)) : Transacts tr (runRow i s k) := by
  unfold Machine.runRow
  split_ifs with hr hsel
  · exact hk hr hsel
  · exact .silent (.refused _)
  · exact .silent (.fault _)

/-! ### The rows that take a byte -/

section
variable (hr : s.rxReady = true)
include hr

theorem Transacts.respond {r : Response} : Transacts s.trace (s.respond r) := .silent (.respond hr)

theorem Transacts.collect : Transacts s.trace (collect b s) := .append (.respond (s := s.store b) hr)

theorem Transacts.probe {op : TimeoutClass} : Transacts s.trace (probe b op s) :=
  .append (.transmit (s := s.store b) hr fun _ _ hr => .respond hr)

theorem Transacts.lastProbe {op : TimeoutClass} : Transacts s.trace (lastProbe b op s) :=
  .append (.transmit (s := s.store b) hr fun _ u hr => .respond (s := u.toDispatch) hr)

theorem Transacts.frameEnd {op : TimeoutClass} : Transacts s.trace (frameEnd b op s) :=
  .append (.transmit (s := s.store b) hr fun _ u hr => .respond (s := u.toDispatch) hr)

theorem Transacts.securityOk {op : TimeoutClass} {next : St} : Transacts s.trace (securityOk b op next s) :=
  .transmit hr fun _ _ hr => by split_ifs <;> exact .respond hr

end

/-- A handler makes one transaction if each row that its byte encodes does. -/
theorem Transacts.of_rows (h : ∀ i, encode i = .rx b → Transacts s.trace (exec i s)) :
    Transacts s.trace (receive b s) := by
  cases hd : decode s.ctx (.rx b) with
  | noRow => exact receive_of_noRow hd ▸ .silent (.refused _)
  | row i =>
    obtain ⟨hi, -⟩ := wellFormed_of_decode hd
    exact exec_eq_receive hd ▸ h i hi

/-- Every row that a byte selects makes one transaction. A row that hands its byte on leaves it to the receiving handler,
which can hand it on to fewer. -/
theorem Transacts.exec (i : Instr) (s : State) (b : Byte) (hi : encode i = .rx b) : Transacts s.trace (exec i s) := by
  have receives (b : Byte) (u : State) (hu : u.st.handOns < s.st.handOns) : Transacts u.trace (receive b u) :=
    .of_rows fun i' hi' => Transacts.exec i' u b hi'
  have command (b : Byte) (x : St) (hs : (s.st == .zppDispatch) = true) (hx : x.handOns = 0) :
      Transacts s.trace (receive b (s.clear.setSt x)) :=
    receives b (s.clear.setSt x) (by rw [State.setSt_st, hx, beq_iff_eq.mp hs]; decide)
  cases i <;> dsimp only [Machine.exec] <;> refine .runRow fun hr hsel => ?_ <;> have hwf := Ctx.selects_iff.mp hsel
  case entrySkip | zppCmdUnknown => exact .respond hr
  case entryFallthrough b =>
    have hs : s.st = .entry := by simp_all [WellFormed]
    exact receives b (s.setSt .preamble) (by simp [hs, St.handOns])
  case prePreamble => exact .transmit hr fun _ _ hr => .respond hr
  case preSelectZpp b =>
    have hs : s.st = .preamble := by simp_all [WellFormed]
    exact receives b (s.setSt .zppDispatch) (by simp [hs, St.handOns])
  case preSelectZsu b =>
    have hs : s.st = .preamble := by simp_all [WellFormed]
    exact receives b (s.setSt .zsuDecoderId) (by simp [hs, St.handOns])
  case zppCmdReadCv => exact command 0x01 .zppReadCv hwf rfl
  case zppCmdWriteCv => exact command 0x02 .zppWriteCv hwf rfl
  case zppCmdFlashErase => exact command 0x03 .zppFlashErase hwf rfl
  case zppCmdDecoderId => exact command 0x04 .zppDecoderId hwf rfl
  case zppCmdFlashWrite => exact command 0x05 .zppFlashWrite hwf rfl
  case zppCmdWriteCvExt => exact command 0x06 .zppWriteCv hwf rfl
  case zppCmdCrcXorQuery => exact command 0x07 .zppCrcOrXorQuery hwf rfl
  case zppReadCvFrameByte | zppWriteCvByte | zppEraseByte | zppFlashWriteByte | zsuBlockByte => exact .collect hr
  case zppReadCvFrameEnd b => exact .append (.transmit (s := s.store b) hr fun _ _ hr => .respond hr)
  case zppReadCvProbe | zppDecoderIdByte | zppCrcXorByte => exact .probe hr
  case zppReadCvLast | zppDecoderIdLast | zppCrcXorLast => exact .lastProbe hr
  case zppWriteCvEnd | zppFlashWriteEnd | zppEraseEndOk => exact .frameEnd hr
  case zppEraseEndBad b => exact .append (.respond (s := (s.store b).toDispatch) hr)
  case zsuDecoderId => exact .transmit hr fun _ _ hr => by split_ifs <;> exact .respond hr
  case zsuBlockCount =>
    refine .transmit hr fun _ _ hr => ?_
    split_ifs
    · split
      · exact .raise
      · exact .respond hr
    · exact .respond hr
  case zsuSec1Ok | zsuSec2Ok => exact .securityOk hr
  case zsuSec1Bad | zsuSec2Bad => exact .respond (s := s.sessionReset) hr
  case zsuBlockEnd b =>
    refine .append (.transmit (s := s.store b) hr fun _ u hr => ?_)
    split_ifs
    · exact .acceptBlock (s := u.clear) hr
    · exact .respond (s := u.clear) hr
  case hostReset => cases hi
termination_by s.st.handOns

/-- A transaction in the terms of the claim. -/
theorem Transacts.exists_events (h : Transacts tr (.next t)) :
    ∃ es, t.trace = tr ++ es ∧ StepEvents es ∧ (t.rxReady = true ↔ Answered es) := by
  cases h with
  | silent h =>
    cases h with
    | stops hready htrace => exact ⟨[], by simp [htrace], .inl rfl, by simp [hready, Answered]⟩
    | answers r hready htrace => exact ⟨[.rsp r], htrace, .inr (.inr (.inl ⟨r, rfl⟩)), by simp [hready, Answered]⟩
  | sent q h =>
    cases h with
    | stops hready htrace => exact ⟨[.tx q], htrace, .inr (.inl ⟨q, rfl⟩), by simp [hready, Answered]⟩
    | answers r hready htrace =>
      exact ⟨[.tx q, .rsp r], by simp [htrace], .inr (.inr (.inr ⟨q, r, rfl⟩)), by simp [hready, Answered]⟩

end

/-- Settles O52: an idle step and the resets add nothing, and a byte makes one transaction. -/
theorem stepTransmitsAndAnswersAtMostOnce : Obligations.StepTransmitsAndAnswersAtMostOnce := by
  intro s t h
  have silent (ht : t.trace = s.trace) (he : ∀ b answer rest, s.env ≠ .rx b answer :: rest) :
      ∃ es, t.trace = s.trace ++ es ∧ StepEvents es ∧
        ∀ b answer rest, s.env = .rx b answer :: rest → (t.rxReady = true ↔ Answered es) :=
    ⟨[], by simp [ht], .inl rfl, fun b answer rest h => absurd h (he b answer rest)⟩
  obtain ⟨he, rfl⟩ | ⟨contents, rest, he, rfl⟩ | ⟨rest, he, -, rfl⟩ | ⟨b, answer, rest, -, -, h⟩ := step_eq_next h
  · exact silent rfl (by simp [he])
  · exact silent rfl (by simp [he])
  · exact silent rfl (by simp [he])
  · have hbyte : Transacts s.trace (.next t) :=
      h ▸ Transacts.of_rows (s := s.accept rest answer) fun i hi => .exec i _ b hi
    obtain ⟨es, htrace, hes, hready⟩ := hbyte.exists_events
    exact ⟨es, htrace, hes, fun _ _ _ _ => hready⟩

end Sys2Proof.Machine
end

section
/-! The common phase (R100 to R104): what each of its rows does with its byte, and that a byte handed on is run by the
receiving handler (R84). -/

namespace Sys2Proof.Machine

section
variable {b : Byte} {s : State} {i : Instr} {p : Nat}

/-! ### A decoded row runs, and an answered request leaves its event -/

/-- The gate of a row is open on a ready engine that decodes its byte to the row (R70). -/
theorem runRow_of_decode {k : State → Result} (hd : decode s.ctx (.rx b) = .row i) (hr : s.rxReady = true) :
    runRow i s k = k s := by
  obtain ⟨-, hwf⟩ := wellFormed_of_decode hd
  exact runRow_of_selects hr (Ctx.selects_iff.mpr hwf)

/-- The handler of a byte does what the meaning of its row does. -/
theorem receive_of_decode {k : State → Result} (hd : decode s.ctx (.rx b) = .row i) (hr : s.rxReady = true)
    (hi : exec i s = runRow i s k) : receive b s = k s := by
  rw [← exec_eq_receive hd, hi, runRow_of_decode hd hr]

/-- The port's saturation does not change the response (R209, D24). -/
@[simp] theorem mapPulses_portPulses (p : Nat) : mapPulses (portPulses p) = mapPulses p := by
  simp only [mapPulses, portPulses_eq_one, portPulses_eq_two]

theorem State.respond_of_answered (hr : s.rxReady = true) (q : TxRequest) (r : Response) :
    (s.openTx q).closeTx.respond r = .next { s with trace := s.trace ++ [.tx q, .rsp r] } := by
  obtain ⟨-, htx⟩ := s.rxReady_iff.mp hr
  simp [State.respond, State.openTx, State.closeTx, State.emit, htx]

/-- A request that is answered with the mapper's response and does nothing else (R80, R102). -/
theorem State.transmit_respond_of_answer (hr : s.rxReady = true) (ha : s.txAns = some p) (bytes : List Byte)
    (op : TimeoutClass) :
    (s.transmit bytes op fun p s => s.respond (mapPulses p)) =
      .next { s with trace := s.trace ++ [.tx ⟨bytes, op⟩, .rsp (mapPulses p)] } := by
  rw [State.transmit_of_answer ha, State.respond_of_answered hr, mapPulses_portPulses]

/-! ### Entry -/

theorem decode_banner (hs : s.st = .entry) (hb : b ∈ s.cfg.banner) : decode s.ctx (.rx b) = .row (.entrySkip b) := by
  simp [decode, decodeByte, Ctx.selectEntry, hs, hb]

theorem decode_entry (hs : s.st = .entry) (hb : b ∉ s.cfg.banner) :
    decode s.ctx (.rx b) = .row (.entryFallthrough b) := by
  simp [decode, decodeByte, Ctx.selectEntry, hs, hb]

theorem exec_entrySkip (hr : s.rxReady = true) (hs : s.st = .entry) (hb : b ∈ s.cfg.banner) :
    exec (.entrySkip b) s = s.respond .none := by
  rw [exec, execEntrySkip, runRow_of_decode (decode_banner hs hb) hr]

/-- A byte outside the banner runs the handler of Preamble (R101). -/
theorem exec_entryFallthrough (hr : s.rxReady = true) (hs : s.st = .entry) (hb : b ∉ s.cfg.banner) :
    exec (.entryFallthrough b) s = receive b (s.setSt .preamble) := by
  rw [exec, execEntryFallthrough, runRow_of_decode (decode_entry hs hb) hr]
  rfl

/-! ### Preamble -/

theorem bit7_eq_false_iff (b : Byte) : bit7 b = false ↔ b < 0x80 := by
  revert b; decide

theorem bit7_eq_true_iff (b : Byte) : bit7 b = true ↔ 0x80 ≤ b := by
  revert b; decide

section
variable (hs : s.st = .preamble)
include hs

theorem decode_code (hb : b = s.cfg.pre0 ∨ b = s.cfg.pre1) : decode s.ctx (.rx b) = .row (.prePreamble b) := by
  simp [decode, decodeByte, Ctx.selectPreamble, hs, hb]

theorem decode_selectZpp (h0 : b ≠ s.cfg.pre0) (h1 : b ≠ s.cfg.pre1) (hb : b < 0x80) :
    decode s.ctx (.rx b) = .row (.preSelectZpp b) := by
  simp [decode, decodeByte, Ctx.selectPreamble, hs, h0, h1, (bit7_eq_false_iff b).mpr hb]

theorem decode_selectZsu (h0 : b ≠ s.cfg.pre0) (h1 : b ≠ s.cfg.pre1) (hb : 0x80 ≤ b) :
    decode s.ctx (.rx b) = .row (.preSelectZsu b) := by
  simp [decode, decodeByte, Ctx.selectPreamble, hs, h0, h1, (bit7_eq_true_iff b).mpr hb]

variable (hr : s.rxReady = true)
include hr

theorem exec_prePreamble (ha : s.txAns = some p) (hb : b = s.cfg.pre0 ∨ b = s.cfg.pre1) :
    exec (.prePreamble b) s = .next { s with trace := s.trace ++ [.tx ⟨[b], .preamble⟩, .rsp (mapPulses p)] } := by
  rw [exec, execPrePreamble, runRow_of_decode (decode_code hs hb) hr, State.transmit_respond_of_answer hr ha]

/-- A byte that selects ZPP runs the handler of ZppDispatch (R103). -/
theorem exec_preSelectZpp (h0 : b ≠ s.cfg.pre0) (h1 : b ≠ s.cfg.pre1) (hb : b < 0x80) :
    exec (.preSelectZpp b) s = receive b (s.setSt .zppDispatch) := by
  rw [exec, execPreSelectZpp, runRow_of_decode (decode_selectZpp hs h0 h1 hb) hr]
  rfl

/-- A byte that selects ZSU runs the one row of ZsuDecoderId (R104). -/
theorem exec_preSelectZsu (h0 : b ≠ s.cfg.pre0) (h1 : b ≠ s.cfg.pre1) (hb : 0x80 ≤ b) :
    exec (.preSelectZsu b) s = exec (.zsuDecoderId b) (s.setSt .zsuDecoderId) := by
  rw [exec, execPreSelectZsu, runRow_of_decode (decode_selectZsu hs h0 h1 hb) hr]
  rfl

end

/-! ### The receiving handlers -/

/-- Two pulses store the identifier and advance; any other count leaves every register (R162). -/
theorem exec_zsuDecoderId (hs : s.st = .zsuDecoderId) (hr : s.rxReady = true) (ha : s.txAns = some p) :
    exec (.zsuDecoderId b) s = .next
      (if p = 2 then
        { s with did := b, st := .zsuBlockCount, trace := s.trace ++ [.tx ⟨[b], .zsuDecoderId⟩, .rsp .ack] }
      else { s with trace := s.trace ++ [.tx ⟨[b], .zsuDecoderId⟩, .rsp (mapPulses p)] }) := by
  have hd : decode s.ctx (.rx b) = .row (.zsuDecoderId b) := by simp [decode, decodeByte, hs]
  rw [exec, execZsuDecoderId, runRow_of_decode hd hr, State.transmit_of_answer ha]
  simp only [portPulses_eq_two, mapPulses_portPulses]
  split_ifs with h2
  · subst h2
    exact State.respond_of_answered (s := (s.setDid b).setSt .zsuBlockCount) hr _ _
  · exact State.respond_of_answered hr _ _

theorem decode_unknownCommand (hs : s.st = .zppDispatch) (hb : ¬ (0x01 ≤ b ∧ b ≤ 0x07)) :
    decode s.ctx (.rx b) = .row (.zppCmdUnknown b) := by
  have hcommand : (decide (1 ≤ b.toNat) && decide (b.toNat ≤ 7)) = false := by
    simp only [Bool.and_eq_false_iff, decide_eq_false_iff_not]
    bv_omega
  exact decode_encode (i := .zppCmdUnknown b) (by simp only [WellFormed, State.ctx_st, hs, hcommand]; rfl)

/-- The protocol stall of an unknown command (R128). -/
theorem exec_zppCmdUnknown (hs : s.st = .zppDispatch) (hr : s.rxReady = true) (hb : ¬ (0x01 ≤ b ∧ b ≤ 0x07)) :
    exec (.zppCmdUnknown b) s = s.respond .none := by
  rw [exec, execZppCmdUnknown, runRow_of_decode (decode_unknownCommand hs hb) hr]

/-! ### The first byte of a ZPP operation -/

section
variable (hr : s.rxReady = true) (hmax : 1 < s.cfg.maxFrame)
include hr hmax

/-- In the states that transmit a whole frame the first byte is collected (R129, R133, R135, R138). -/
theorem receive_firstByte_collected {x : St}
    (hx : x = .zppReadCv ∨ x = .zppWriteCv ∨ x = .zppFlashErase ∨ x = .zppFlashWrite) :
    receive b (s.clear.setSt x) = .next
      { s with st := x, pktMem := s.pktMem.write 0 b, pktLen := 1, trace := s.trace ++ [.rsp .none] } := by
  have hcollect : receive b (s.clear.setSt x) = collect b (s.clear.setSt x) := by
    obtain rfl | rfl | rfl | rfl := hx
    · exact receive_of_decode (i := .zppReadCvFrameByte b) rfl hr rfl
    · have hlen : 1 < writeCvLen b := Nat.lt_of_lt_of_le (by decide) (five_le_tableWriteLen b)
      exact receive_of_decode (i := .zppWriteCvByte b) (by simp [decode, decodeByte, Ctx.selectWriteCv, hlen]) hr rfl
    · exact receive_of_decode (i := .zppEraseByte b) rfl hr rfl
    · exact receive_of_decode (i := .zppFlashWriteByte b)
        (by simp [decode, decodeByte, Ctx.selectFlashWrite, hmax]) hr rfl
  exact hcollect.trans (State.append_of_lt (s := s.clear.setSt x) (Nat.zero_lt_of_lt hmax))

/-- In the probing states the first byte is collected and transmitted alone (R140, R142). -/
theorem receive_firstByte_probed (ha : s.txAns = some p) {x : St} {op : TimeoutClass}
    (hx : x = .zppDecoderId ∧ op = .decoderIdRead ∨ x = .zppCrcOrXorQuery ∧ op = .crcXorQuery) :
    receive b (s.clear.setSt x) = .next
      { s with
        st := x, pktMem := s.pktMem.write 0 b, pktLen := 1,
        trace := s.trace ++ [.tx ⟨[b], op⟩, .rsp (mapPulses p)] } := by
  have hprobe : receive b (s.clear.setSt x) = probe b op (s.clear.setSt x) := by
    obtain ⟨rfl, rfl⟩ | ⟨rfl, rfl⟩ := hx
    · exact receive_of_decode (i := .zppDecoderIdByte b) rfl hr rfl
    · exact receive_of_decode (i := .zppCrcXorByte b) rfl hr rfl
  rw [hprobe, probe, State.append_of_lt (s := s.clear.setSt x) (Nat.zero_lt_of_lt hmax)]
  exact State.transmit_respond_of_answer (s := (s.clear.setSt x).store b) hr ha _ _

end

/-! ### Completion -/

/-- The byte is taken in a way that leaves the engine ready, in a state that `P` holds of. -/
def Completes (P : St → Prop) (r : Result) : Prop := ∃ t, r = .next t ∧ t.rxReady = true ∧ P t.st

section
variable (hr : s.rxReady = true) (ha : s.txAns = some p)
include hr ha

/-- ZppDispatch completes for every byte, in the ZPP branch (R120 to R128). -/
theorem Completes.gotoZppDispatch (hs : s.st = .zppDispatch) (hmax : 1 < s.cfg.maxFrame) :
    Completes (isZpp · = true) (gotoZppDispatch b s) := by
  have command {i : Instr} {cmd : Byte} {x : St} {t : State} (hi : WellFormed s.ctx i = (s.st == .zppDispatch))
      (hfirst : receive cmd (s.clear.setSt x) = .next t) (hready : t.rxReady = true) (hzpp : isZpp t.st = true) :
      Completes (isZpp · = true) (runRow i s fun s => receive cmd (s.clear.setSt x)) :=
    ⟨t, (runRow_of_selects hr (Ctx.selects_iff.mpr (by simp [hi, hs]))).trans hfirst, hready, hzpp⟩
  have collects {cmd : Byte} {x : St} := receive_firstByte_collected (b := cmd) hr hmax (x := x)
  have probes {cmd : Byte} {x : St} {op : TimeoutClass} :=
    receive_firstByte_probed (b := cmd) hr hmax ha (x := x) (op := op)
  unfold Machine.gotoZppDispatch selectDispatch
  split_ifs with h1 h2 h3 h4 h5 h6 h7
  · exact command rfl (collects (.inl rfl)) hr rfl
  · exact command rfl (collects (.inr (.inl rfl))) hr rfl
  · exact command rfl (collects (.inr (.inr (.inl rfl)))) hr rfl
  · exact command rfl (probes (.inl ⟨rfl, rfl⟩)) hr rfl
  · exact command rfl (collects (.inr (.inr (.inr rfl)))) hr rfl
  · exact command rfl (collects (.inr (.inl rfl))) hr rfl
  · exact command rfl (probes (.inr ⟨rfl, rfl⟩)) hr rfl
  · have hb : ¬ (0x01 ≤ b ∧ b ≤ 0x07) := by bv_omega
    exact ⟨_, exec_zppCmdUnknown hs hr hb, hr, by simp [hs, isZpp]⟩

theorem Completes.exec_preSelectZpp (hs : s.st = .preamble) (hmax : 1 < s.cfg.maxFrame) (h0 : b ≠ s.cfg.pre0)
    (h1 : b ≠ s.cfg.pre1) (hb : b < 0x80) : Completes (isZpp · = true) (exec (.preSelectZpp b) s) :=
  Machine.exec_preSelectZpp hs hr h0 h1 hb ▸ Completes.gotoZppDispatch (s := s.setSt .zppDispatch) hr ha rfl hmax

theorem Completes.exec_preSelectZsu (hs : s.st = .preamble) (h0 : b ≠ s.cfg.pre0) (h1 : b ≠ s.cfg.pre1)
    (hb : 0x80 ≤ b) : Completes (fun x => x = .zsuDecoderId ∨ x = .zsuBlockCount) (exec (.preSelectZsu b) s) := by
  rw [Machine.exec_preSelectZsu hs hr h0 h1 hb]
  refine ⟨_, exec_zsuDecoderId (s := s.setSt .zsuDecoderId) rfl hr ha, ?_⟩
  split_ifs
  · exact ⟨hr, .inr rfl⟩
  · exact ⟨hr, .inl rfl⟩

/-- A byte that falls through Entry is a preamble code, or selects the one or the other branch (R101). -/
theorem Completes.exec_entryFallthrough (hs : s.st = .entry) (hmax : 1 < s.cfg.maxFrame) (hb : b ∉ s.cfg.banner) :
    Completes (· ≠ .entry) (exec (.entryFallthrough b) s) := by
  rw [Machine.exec_entryFallthrough hr hs hb]
  by_cases hcode : b = s.cfg.pre0 ∨ b = s.cfg.pre1
  · rw [← exec_eq_receive (decode_code (s := s.setSt .preamble) rfl hcode)]
    exact ⟨_, exec_prePreamble (s := s.setSt .preamble) rfl hr ha hcode, hr, by simp⟩
  obtain ⟨h0, h1⟩ := not_or.mp hcode
  obtain hlow | hhigh : b < 0x80 ∨ 0x80 ≤ b := by bv_omega
  · rw [← exec_eq_receive (decode_selectZpp (s := s.setSt .preamble) rfl h0 h1 hlow)]
    obtain ⟨t, ht, hready, hzpp⟩ := Completes.exec_preSelectZpp (s := s.setSt .preamble) hr ha rfl hmax h0 h1 hlow
    exact ⟨t, ht, hready, fun h => by simp [h, isZpp] at hzpp⟩
  · rw [← exec_eq_receive (decode_selectZsu (s := s.setSt .preamble) rfl h0 h1 hhigh)]
    obtain ⟨t, ht, hready, hzsu⟩ := Completes.exec_preSelectZsu (s := s.setSt .preamble) hr ha rfl h0 h1 hhigh
    exact ⟨t, ht, hready, fun h => by simp [h] at hzsu⟩

end

end

/-- Settles O13: the handing-on row is selected, and the receiving handler runs the row that the byte decodes to. -/
theorem handedOnByteRunsTheReceivingHandler : Obligations.HandedOnByteRunsTheReceivingHandler := by
  intro s b i hr
  refine ⟨fun hs hb hd => ?_, fun hs h0 h1 hb hd => ?_, fun hs h0 h1 hb => exec_preSelectZsu hs hr h0 h1 hb⟩
  · exact (exec_entryFallthrough hr hs hb).trans (exec_eq_receive hd).symm
  · exact (exec_preSelectZpp hs hr h0 h1 hb).trans (exec_eq_receive hd).symm

/-- Settles O14: the byte is a preamble code, a ZPP command or not, or the first identifier, and each completes. -/
theorem selectingRowsComplete : Obligations.SelectingRowsComplete := by
  intro s b p hr hcfg ha
  obtain ⟨-, -, -, -, hmax⟩ := hcfg
  have hmax : 1 < s.cfg.maxFrame := by omega
  exact ⟨fun hs hb => Completes.exec_entryFallthrough hr ha hs hmax hb,
    fun hs h0 h1 hb => Completes.exec_preSelectZpp hr ha hs hmax h0 h1 hb,
    fun hs h0 h1 hb => Completes.exec_preSelectZsu hr ha hs h0 h1 hb⟩

/-- Settles O12: the row only answers. -/
theorem bannerByteIsSkipped : Obligations.BannerByteIsSkipped :=
  fun _ _ => exec_entrySkip

/-- Settles O15: in Entry the byte is handed on to the same row in Preamble. -/
theorem preambleCodeIsTransmittedAlone : Obligations.PreambleCodeIsTransmittedAlone := by
  intro s b p hr ha hcode
  refine ⟨fun hs => exec_prePreamble hs hr ha hcode, fun hs hb => ?_⟩
  have hd : decode (s.setSt .preamble).ctx (.rx b) = .row (.prePreamble b) := decode_code rfl hcode
  rw [exec_entryFallthrough hr hs hb, ← exec_eq_receive hd]
  exact exec_prePreamble (s := s.setSt .preamble) rfl hr ha hcode

/-- Settles O16: the byte is handed on to the row of an unknown command, in ZppDispatch. -/
theorem unknownByteAfterPreambleStallsInDispatch : Obligations.UnknownByteAfterPreambleStallsInDispatch := by
  intro s b hr hs h0 h1 hb hcommand
  have hd : decode (s.setSt .zppDispatch).ctx (.rx b) = .row (.zppCmdUnknown b) := decode_unknownCommand rfl hcommand
  rw [exec_preSelectZpp hs hr h0 h1 hb, ← exec_eq_receive hd]
  exact exec_zppCmdUnknown (s := s.setSt .zppDispatch) rfl hr hcommand

/-- Settles O27: the byte is handed on to ZSU_DECODER_ID, in ZsuDecoderId. -/
theorem selectingByteIsTheFirstDecoderId : Obligations.SelectingByteIsTheFirstDecoderId := by
  intro s b p hr ha hs h0 h1 hb
  rw [exec_preSelectZsu hs hr h0 h1 hb]
  exact exec_zsuDecoderId (s := s.setSt .zsuDecoderId) rfl hr ha

end Sys2Proof.Machine
end

section
/-! What the rows that store nothing leave alone (R87, R100, R102, R128, R162 to R167). -/

namespace Sys2Proof.Machine

section
variable {b : Byte} {s t : State} {i : Instr}

theorem SendFrame.refl (s : State) : SendFrame s s := ⟨rfl, rfl, rfl, rfl, rfl, rfl, rfl⟩

theorem SentAlone.st_eq (h : SentAlone b s t) : t.st = s.st := by
  obtain ⟨op, rfl⟩ | h := h
  · rfl
  · exact h.st_eq

theorem SentAlone.did_eq (h : SentAlone b s t) : t.did = s.did := by
  obtain ⟨op, rfl⟩ | h := h
  · rfl
  · exact h.did_eq

/-- The rows that only answer send their byte alone or nothing (R100, R102, R128). -/
theorem SentAlone.of_exec_answering (hi : i = .entrySkip b ∨ i = .prePreamble b ∨ i = .zppCmdUnknown b)
    (h : exec i s = .next t) : SentAlone b s t := by
  obtain rfl | rfl | rfl := hi
  all_goals
    dsimp only [exec] at h
    obtain ⟨-, -, h⟩ := runRow_eq_next h
  · exact .inr (.of_respond h)
  · obtain ⟨-, ht⟩ | ⟨p, -, h⟩ := State.transmit_eq_next h
    · exact .inl ⟨_, ht⟩
    · exact .inr (.of_answered (.of_respond h))
  · exact .inr (.of_respond h)

/-- A matching security byte writes `st` only (R164, R166). -/
theorem SendFrame.of_securityOk {op : TimeoutClass} {next : St} (h : securityOk b op next s = .next t) :
    SendFrame s t ∧ t.did = s.did := by
  obtain h | h := securityOk_eq_next h
  · exact ⟨(SendFrame.refl s).of_sentAlone h, h.did_eq⟩
  · exact ⟨(SendFrame.of_setSt s next).of_endsIn h, h.did_eq⟩

/-- The rows that wait for a confirming pulse write `st`, and ZSU_DECODER_ID writes `did` too (R162, R164, R166). -/
theorem SendFrame.of_exec_confirming (hi : i = .zsuDecoderId b ∨ i = .zsuSec1Ok ∨ i = .zsuSec2Ok)
    (h : exec i s = .next t) : SendFrame s t ∧ (i ≠ .zsuDecoderId b → t.did = s.did) := by
  obtain rfl | rfl | rfl := hi
  · exact ⟨(SendFrame.refl s).of_gotoZsuDecoderId h, fun hne => absurd rfl hne⟩
  all_goals
    dsimp only [exec] at h
    obtain ⟨-, -, h⟩ := runRow_eq_next h
    obtain ⟨hframe, hdid⟩ := SendFrame.of_securityOk h
    exact ⟨hframe, fun _ => hdid⟩

/-- What the block count and the resets leave alone: the configuration, the environment's side, and the storage. -/
structure StorageFrame (s t : State) : Prop where
  cfg : t.cfg = s.cfg
  txAns : t.txAns = s.txAns
  env : t.env = s.env
  pktMem : t.pktMem = s.pktMem

/-- ZSU_BLOCK_COUNT writes `bc`, `st` and `fault` only, whether or not the count can be computed (R163). -/
theorem StorageFrame.of_exec_zsuBlockCount (h : exec (.zsuBlockCount b) s = .next t) :
    StorageFrame s t ∧ t.did = s.did ∧ t.pktLen = s.pktLen := by
  obtain h | ⟨r, _, _, -, rfl⟩ | ⟨-, q, -, _, _, -, rfl⟩ := execZsuBlockCount_eq_next h
  · obtain ⟨hcfg, hans, henv, hmem, hlen, -, -⟩ := (SendFrame.refl s).of_sentAlone h
    exact ⟨⟨hcfg, hans, henv, hmem⟩, h.did_eq, hlen⟩
  · exact ⟨⟨rfl, rfl, rfl, rfl⟩, rfl, rfl⟩
  · exact ⟨⟨rfl, rfl, rfl, rfl⟩, rfl, rfl⟩

/-- The rows that reset the session write its registers only, with or without a response (R87, R165, R167). -/
theorem StorageFrame.of_exec_resetting (hi : i = .zsuSec1Bad b ∨ i = .zsuSec2Bad b ∨ i = .hostReset)
    (h : exec i s = .next t) : StorageFrame s t ∧ t.fault = s.fault ∧ t.tx = s.tx := by
  obtain rfl | rfl | rfl := hi
  all_goals
    dsimp only [exec] at h
    obtain ⟨-, -, h⟩ := runRow_eq_next h
    cases h
    exact ⟨⟨rfl, rfl, rfl, rfl⟩, rfl, rfl⟩

end

/-- Settles O39: the answering rows write no register, the confirming ones `st` and `did`, the block count `st`, `bc` and
`fault`, and the resets the registers of the session. -/
theorem frameOfRowsThatStoreNothing : Obligations.FrameOfRowsThatStoreNothing := by
  intro i s t b h
  refine ⟨fun hi => ?_, fun hi => ?_, ?_, fun hi => ?_⟩
  · have hsent := SentAlone.of_exec_answering hi h
    obtain ⟨hcfg, hans, henv, hmem, hlen, hbc, hfault⟩ := (SendFrame.refl s).of_sentAlone hsent
    exact ⟨hsent.st_eq, hsent.did_eq, hbc, hfault, hlen, hcfg, hans, henv, fun a => by rw [hmem]⟩
  · obtain ⟨⟨hcfg, hans, henv, hmem, hlen, hbc, hfault⟩, hdid⟩ := SendFrame.of_exec_confirming hi h
    exact ⟨hdid, hbc, hfault, hlen, hcfg, hans, henv, fun a => by rw [hmem]⟩
  · rintro rfl
    obtain ⟨⟨hcfg, hans, henv, hmem⟩, hdid, hlen⟩ := StorageFrame.of_exec_zsuBlockCount h
    exact ⟨hdid, hlen, hcfg, hans, henv, fun a => by rw [hmem]⟩
  · obtain ⟨⟨hcfg, hans, henv, hmem⟩, hfault, htx⟩ := StorageFrame.of_exec_resetting hi h
    exact ⟨hfault, htx, hcfg, hans, henv, fun a => by rw [hmem]⟩

end Sys2Proof.Machine
end

section
/-! The ZPP branch (R120 to R145): what a byte can do in it, that only a host reset leaves it, that no frame in it fills
the buffer, and that the pulse count reaches the response only. -/

namespace Sys2Proof.Machine

section
variable {b : Byte} {s t : State} {more : Prop} {answer : Option Nat} {rest : List EnvEvent}

/-! ### A step on an action of the host -/

/-- A step on a byte is what its handler does on a ready engine (R82, R83). -/
theorem receive_of_step_rx (he : s.env = .rx b answer :: rest) (h : step s = .next t) :
    s.rxReady = true ∧ receive b (s.accept rest answer) = .next t := by
  obtain ⟨he', -⟩ | ⟨_, _, he', -⟩ | ⟨_, he', -⟩ | ⟨_, _, _, he', hr, h⟩ := step_eq_next h <;> cases he.symm.trans he'
  exact ⟨hr, h⟩

theorem sessionReset_of_step_reset (he : s.env = .reset :: rest) (h : step s = .next t) :
    t = (s.accept rest s.txAns).sessionReset := by
  obtain ⟨he', -⟩ | ⟨_, _, he', -⟩ | ⟨_, he', -, ht⟩ | ⟨_, _, _, he', -⟩ := step_eq_next h <;> cases he.symm.trans he'
  exact ht

/-! ### What a byte can do in the ZPP branch -/

/-- A byte in the ZPP branch is dropped, is appended to the frame in assembly, or starts the frame of an operation in the
cleared packet; a completed frame returns to dispatch (R120, R128). -/
inductive ZppTaken (b : Byte) (s t : State) : Prop
  | drops (ht : s.EndsIn t)
  | collects {more : Prop} (ht : Collected b s more (s.store b).toDispatch t)
  | starts (x : St) (hx : isZpp x = true) {more : Prop}
      (ht : Collected b (s.clear.setSt x) more ((s.clear.setSt x).store b).toDispatch t)

theorem ZppTaken.of_gotoZppDispatch (h : gotoZppDispatch b s = .next t) : ZppTaken b s t := by
  obtain h | ⟨-, h⟩ | ⟨-, h⟩ | ⟨-, h⟩ | ⟨-, h⟩ | ⟨-, h⟩ | ⟨-, h⟩ := gotoZppDispatch_eq_next h
  · exact .drops h
  · exact .starts .zppReadCv rfl (gotoZppReadCv_eq_next h)
  · exact .starts .zppWriteCv rfl (gotoZppWriteCv_eq_next h)
  · exact .starts .zppFlashErase rfl (gotoZppFlashErase_eq_next h)
  · exact .starts .zppDecoderId rfl (gotoZppDecoderId_eq_next h)
  · exact .starts .zppFlashWrite rfl (gotoZppFlashWrite_eq_next h)
  · exact .starts .zppCrcOrXorQuery rfl (gotoZppCrcOrXorQuery_eq_next h)

theorem ZppTaken.of_receive (hs : isZpp s.st = true) (h : receive b s = .next t) : ZppTaken b s t := by
  cases hst : s.st <;> simp only [receive, hst] at h hs
  case zppDispatch => exact .of_gotoZppDispatch h
  case zppReadCv => exact .collects (gotoZppReadCv_eq_next h)
  case zppWriteCv => exact .collects (gotoZppWriteCv_eq_next h)
  case zppFlashErase => exact .collects (gotoZppFlashErase_eq_next h)
  case zppFlashWrite => exact .collects (gotoZppFlashWrite_eq_next h)
  case zppDecoderId => exact .collects (gotoZppDecoderId_eq_next h)
  case zppCrcOrXorQuery => exact .collects (gotoZppCrcOrXorQuery_eq_next h)
  all_goals cases hs

/-- An append leaves `st` as it is, but for a completed frame, which returns to dispatch. -/
theorem Collected.isZpp_st (h : Collected b s more (s.store b).toDispatch t) (hs : isZpp s.st = true) :
    isZpp t.st = true := by
  cases h with
  | overflow _ ht => exact ht.st_eq ▸ hs
  | waits _ _ _ _ ht => subst ht; exact hs
  | stays _ _ ht => exact ht.st_eq ▸ hs
  | completes _ ht => rw [ht.st_eq]; rfl

theorem ZppTaken.isZpp_st (h : ZppTaken b s t) (hs : isZpp s.st = true) : isZpp t.st = true := by
  cases h with
  | drops ht => exact ht.st_eq ▸ hs
  | collects ht => exact ht.isZpp_st hs
  | starts x hx ht => exact ht.isZpp_st hx

/-- With room in the buffer for a byte nothing overflows (R41). -/
theorem ZppTaken.fault_eq (h : ZppTaken b s t) (hroom : s.pktLen < s.cfg.maxFrame) : t.fault = s.fault := by
  cases h with
  | drops ht =>
    obtain ⟨_, _, -, rfl⟩ := ht
    rfl
  | collects ht =>
    obtain ⟨-, -, -, hfault⟩ := CollectFrame.of_collected ht (.of_store s b .zppDispatch 0)
    exact hfault.resolve_right (Nat.not_le.mpr hroom)
  | starts x _ ht =>
    obtain ⟨-, -, -, hfault⟩ := CollectFrame.of_collected ht (.of_store _ b .zppDispatch 0)
    exact hfault.resolve_right (Nat.not_le.mpr (Nat.zero_lt_of_lt hroom))

/-- Every frame of the branch ends within `MAX_FRAME`, so a frame in assembly leaves room (R29, R145). -/
theorem State.Framed.room_of_isZpp (h : s.Framed) (hs : isZpp s.st = true) (hmax : 10 ≤ s.cfg.maxFrame) :
    s.pktLen < s.cfg.maxFrame := by
  unfold State.Framed at h
  cases hst : s.st <;> simp only [hst] at h hs
  case zppDispatch =>
    obtain ⟨hlen, -⟩ := h
    omega
  case zppWriteCv => obtain ⟨-, hlen, -⟩ | ⟨-, hlen, -⟩ := h <;> omega
  case zppReadCv | zppFlashErase | zppFlashWrite | zppDecoderId | zppCrcOrXorQuery =>
    obtain ⟨-, hlen, -⟩ := h
    omega
  all_goals cases hs

end

/-- Settles O46: wherever a byte is appended, the state it ends in is a ZPP state; the reset writes `Entry`. -/
theorem zppBranchIsLeftOnlyByReset : Obligations.ZppBranchIsLeftOnlyByReset := by
  intro s t rest hs h
  refine ⟨fun b answer he => ?_, fun he => ?_⟩
  · obtain ⟨-, h⟩ := receive_of_step_rx he h
    exact (ZppTaken.of_receive (s := s.accept rest answer) hs h).isZpp_st hs
  · rw [sessionReset_of_step_reset he h]
    rfl

/-- Settles O47: an idle step and the resets raise no fault, and a byte finds room in the buffer. -/
theorem zppStepsRaiseNoFault : Obligations.ZppStepsRaiseNoFault := by
  intro s t hi hfault hs h
  obtain ⟨-, rfl⟩ | ⟨_, _, -, rfl⟩ | ⟨_, -, -, rfl⟩ | ⟨b, answer, rest, -, hr, h⟩ := step_eq_next h
  · exact hfault
  · rfl
  · exact hfault
  · have hframed := hi.framing (hi.taking hr).tx
    have hroom := hframed.room_of_isZpp hs hi.sound.ten_le_maxFrame
    exact ((ZppTaken.of_receive (s := s.accept rest answer) hs h).fault_eq hroom).trans hfault

/-! ### The pulse count -/

/-- The registers of the engine (R20 to R24). -/
def State.registers (s : State) : St × Nat × Memory × Byte × BitVec 32 × Option FaultReason :=
  (s.st, s.pktLen, s.pktMem, s.did, s.bc, s.fault)

/-- Whatever count answers the handler's request from `s`, and whatever the environment does next, the registers that the
handler ends with are the same. -/
def PulseBlind (s : State) (k : State → Result) : Prop :=
  ∃ v, ∀ rest p t, k (s.accept rest (some p)) = .next t → t.registers = v

section
variable {b : Byte} {s : State} {i : Instr} {op : TimeoutClass}

theorem PulseBlind.respond {r : Response} : PulseBlind s (·.respond r) :=
  ⟨s.registers, by rintro rest p t ⟨⟩; rfl⟩

theorem PulseBlind.runRow {k : State → Result} (hk : PulseBlind s k) : PulseBlind s (runRow i · k) := by
  obtain ⟨v, hv⟩ := hk
  refine ⟨v, fun rest p t h => ?_⟩
  obtain ⟨-, -, h⟩ := runRow_eq_next h
  exact hv rest p t h

/-- Whether the append overflows does not depend on the count (R41). -/
theorem PulseBlind.append {k : State → Result} (hk : PulseBlind (s.store b) k) : PulseBlind s (·.append b k) := by
  obtain hfull | hroom := le_or_gt s.cfg.maxFrame s.pktLen
  · refine ⟨(s.setFault .packetOverflow).registers, fun rest p t h => ?_⟩
    cases (State.append_of_full (s := s.accept rest (some p)) hfull).symm.trans h
    rfl
  · obtain ⟨v, hv⟩ := hk
    exact ⟨v, fun rest p t h => hv rest p t ((State.append_of_lt (s := s.accept rest (some p)) hroom).symm.trans h)⟩

/-- The rows of the branch use the count in the response only: what they write once answered is fixed (R120). -/
theorem PulseBlind.transmit {bytes : State → List Byte} {f : State → State}
    (hf : ∀ rest p q, (f ((s.accept rest (some p)).openTx q).closeTx).registers = (f s).registers := by intros; rfl) :
    PulseBlind s fun u => u.transmit (bytes u) op fun p u => (f u).respond (mapPulses p) := by
  refine ⟨(f s).registers, fun rest p t h => ?_⟩
  cases (State.transmit_of_answer (s := s.accept rest (some p)) rfl).symm.trans h
  exact hf rest p _

theorem PulseBlind.collect : PulseBlind s (collect b) := .append .respond

theorem PulseBlind.probe : PulseBlind s (probe b op) := .append .transmit

theorem PulseBlind.lastProbe : PulseBlind s (lastProbe b op) := .append .transmit

theorem PulseBlind.frameEnd : PulseBlind s (frameEnd b op) := .append .transmit

/-- The row is chosen without the count (R60), so a handler is blind to it if each row that it can choose is. -/
theorem PulseBlind.of_rows (h : ∀ i, decode s.ctx (.rx b) = .row i → PulseBlind s (exec i)) :
    PulseBlind s (receive b) := by
  cases hd : decode s.ctx (.rx b) with
  | noRow =>
    refine ⟨s.registers, fun rest p t ht => ?_⟩
    cases (receive_of_noRow (s := s.accept rest (some p)) hd).symm.trans ht
  | row i =>
    obtain ⟨v, hv⟩ := h i hd
    exact ⟨v, fun rest p t ht => hv rest p t ((exec_eq_receive (s := s.accept rest (some p)) hd).trans ht)⟩

/-- Every row that a byte selects in the branch is blind to the count; a command leaves its byte to the handler of its
operation, which hands it on no further. -/
theorem PulseBlind.exec (i : Instr) (s : State) (b : Byte) (hs : isZpp s.st = true)
    (hd : decode s.ctx (.rx b) = .row i) : PulseBlind s (exec i) := by
  obtain ⟨hi, hwf⟩ := wellFormed_of_decode hd
  have command (cmd : Byte) (x : St) (hst : (s.st == .zppDispatch) = true) (hx : isZpp x = true) (hlast : x.handOns = 0) :
      PulseBlind (s.clear.setSt x) (receive cmd) :=
    have : (s.clear.setSt x).st.handOns < s.st.handOns := by rw [State.setSt_st, hlast, beq_iff_eq.mp hst]; decide
    .of_rows fun i' hd' => PulseBlind.exec i' (s.clear.setSt x) cmd hx hd'
  cases i
  case zppCmdReadCv => exact .runRow (command 0x01 .zppReadCv hwf rfl rfl)
  case zppCmdWriteCv => exact .runRow (command 0x02 .zppWriteCv hwf rfl rfl)
  case zppCmdFlashErase => exact .runRow (command 0x03 .zppFlashErase hwf rfl rfl)
  case zppCmdDecoderId => exact .runRow (command 0x04 .zppDecoderId hwf rfl rfl)
  case zppCmdFlashWrite => exact .runRow (command 0x05 .zppFlashWrite hwf rfl rfl)
  case zppCmdWriteCvExt => exact .runRow (command 0x06 .zppWriteCv hwf rfl rfl)
  case zppCmdCrcXorQuery => exact .runRow (command 0x07 .zppCrcOrXorQuery hwf rfl rfl)
  case zppCmdUnknown => exact .runRow .respond
  case zppReadCvFrameByte | zppWriteCvByte | zppEraseByte | zppFlashWriteByte => exact .runRow .collect
  case zppReadCvFrameEnd => exact .runRow (.append .transmit)
  case zppReadCvProbe | zppDecoderIdByte | zppCrcXorByte => exact .runRow .probe
  case zppReadCvLast | zppDecoderIdLast | zppCrcXorLast => exact .runRow .lastProbe
  case zppWriteCvEnd | zppFlashWriteEnd | zppEraseEndOk => exact .runRow .frameEnd
  case zppEraseEndBad b => exact .runRow (.append (.respond (s := (s.store b).toDispatch)))
  case hostReset => cases hi
  all_goals -- the rows of the other states
    simp only [WellFormed, State.ctx_st, Bool.and_eq_true, beq_iff_eq, and_assoc] at hwf
    simp [hwf, isZpp] at hs
termination_by s.st.handOns

end

/-- Settles O54: both runs receive the same byte in the same context, and the handler is blind to the count. -/
theorem zppStepsIgnoreThePulseCount : Obligations.ZppStepsIgnoreThePulseCount := by
  intro s t t' b p p' rest hs h h'
  obtain ⟨v, hv⟩ : PulseBlind s (receive b) := .of_rows fun i hd => .exec i s b hs hd
  obtain ⟨-, h⟩ := receive_of_step_rx rfl h
  obtain ⟨-, h'⟩ := receive_of_step_rx rfl h'
  have hregs : t.registers = t'.registers := (hv rest p t h).trans (hv rest p' t' h').symm
  simpa only [State.registers, Prod.mk.injEq] using hregs

end Sys2Proof.Machine
end

section
/-! The next states of the ZPP rows in full (R121 to R143), over the four shapes of the operation states. -/

namespace Sys2Proof.Machine

section
variable {b cmd : Byte} {s : State} {i : Instr} {p : Nat} {op : TimeoutClass} {x : St}

/-- The gate of a row is open on a ready engine where the table's columns hold (R70). -/
theorem runRow_of_wellFormed {k : State → Result} (hr : s.rxReady = true) (hwf : WellFormed s.ctx i = true) :
    runRow i s k = k s :=
  runRow_of_selects hr (Ctx.selects_iff.mpr hwf)

/-- A command is handed on to its operation state, with the packet cleared (R120). -/
theorem runRow_command {t : State} (hr : s.rxReady = true) (hs : s.st = .zppDispatch)
    (hi : WellFormed s.ctx i = (s.st == .zppDispatch)) (ht : receive cmd (s.clear.setSt x) = .next t) :
    (runRow i s fun s => receive cmd (s.clear.setSt x)) = .next t :=
  (runRow_of_wellFormed hr (hi.trans (beq_iff_eq.mpr hs))).trans ht

/-! ### The shapes, with room in the buffer -/

theorem collect_of_room (hroom : s.pktLen < s.cfg.maxFrame) :
    collect b s = .next
      { s with pktMem := s.pktMem.write s.pktLen b, pktLen := s.pktLen + 1, trace := s.trace ++ [.rsp .none] } :=
  State.append_of_lt hroom

/-- A request that is answered with the mapper's response and returns to dispatch (R80, R120). -/
theorem State.transmit_toDispatch_of_answer (hr : s.rxReady = true) (ha : s.txAns = some p) (bytes : List Byte)
    (op : TimeoutClass) :
    (s.transmit bytes op fun p s => s.toDispatch.respond (mapPulses p)) =
      .next { s with
        st := .zppDispatch, pktLen := 0, trace := s.trace ++ [.tx ⟨bytes, op⟩, .rsp (mapPulses p)] } := by
  rw [State.transmit_of_answer ha, mapPulses_portPulses]
  exact State.respond_of_answered (s := s.toDispatch) hr _ _

section
variable (hr : s.rxReady = true) (ha : s.txAns = some p) (hroom : s.pktLen < s.cfg.maxFrame)
include hr ha hroom

theorem probe_of_answer :
    probe b op s = .next
      { s with
        pktMem := s.pktMem.write s.pktLen b, pktLen := s.pktLen + 1,
        trace := s.trace ++ [.tx ⟨[b], op⟩, .rsp (mapPulses p)] } := by
  rw [probe, State.append_of_lt hroom]
  exact State.transmit_respond_of_answer (s := s.store b) hr ha _ _

theorem lastProbe_of_answer :
    lastProbe b op s = .next
      { s with
        st := .zppDispatch, pktMem := s.pktMem.write s.pktLen b, pktLen := 0,
        trace := s.trace ++ [.tx ⟨[b], op⟩, .rsp (mapPulses p)] } := by
  rw [lastProbe, State.append_of_lt hroom]
  exact State.transmit_toDispatch_of_answer (s := s.store b) hr ha _ _

theorem frameEnd_of_answer :
    frameEnd b op s = .next
      { s with
        st := .zppDispatch, pktMem := s.pktMem.write s.pktLen b, pktLen := 0,
        trace := s.trace ++ [.tx ⟨s.pkt ++ [b], op⟩, .rsp (mapPulses p)] } := by
  rw [frameEnd, State.append_of_lt hroom, State.pkt_store]
  exact State.transmit_toDispatch_of_answer (s := s.store b) hr ha _ _

end

/-- The length of a write-CV frame in the claims' terms (R133). -/
theorem tableWriteLen_eq (s : State) (b : Byte) :
    tableWriteLen (s.ctx.first b) = if (s.pkt ++ [b])[0]? = some 0x02 then 5 else 6 := by
  cases h : s.pkt <;> simp [Ctx.first, tableWriteLen, h]

/-- The security condition of an erase frame in the claims' terms (R136). -/
theorem eraseSecure_iff (s : State) (b : Byte) :
    s.ctx.eraseSecure b = true ↔ s.pkt[1]? = some 0x55 ∧ s.pkt[2]? = some 0xFF ∧ b = 0xFF := by
  simp [Ctx.eraseSecure, and_assoc]

end

/-- Settles O17: the byte is handed on to a state that collects its first byte. -/
theorem collectedCommandStartsItsFrame : Obligations.CollectedCommandStartsItsFrame := by
  intro s hr hs hten
  have collects {cmd : Byte} {x : St} := receive_firstByte_collected (b := cmd) (x := x) hr (by omega)
  exact ⟨runRow_command hr hs rfl (collects (.inl rfl)), runRow_command hr hs rfl (collects (.inr (.inl rfl))),
    runRow_command hr hs rfl (collects (.inr (.inr (.inl rfl)))),
    runRow_command hr hs rfl (collects (.inr (.inr (.inr rfl)))),
    runRow_command hr hs rfl (collects (.inr (.inl rfl)))⟩

/-- Settles O18: the byte is handed on to a state that probes with its first byte. -/
theorem transmittedCommandStartsItsProbes : Obligations.TransmittedCommandStartsItsProbes := by
  intro s p hr hs hten ha
  have probes {cmd : Byte} {x : St} {op : TimeoutClass} :=
    receive_firstByte_probed (b := cmd) (x := x) (op := op) hr (by omega) ha
  exact ⟨runRow_command hr hs rfl (probes (.inl ⟨rfl, rfl⟩)), runRow_command hr hs rfl (probes (.inr ⟨rfl, rfl⟩))⟩

/-- Settles O19: the row only answers. -/
theorem unknownCommandStalls : Obligations.UnknownCommandStalls :=
  fun _ _ hr hs hb => exec_zppCmdUnknown hs hr hb

/-- Settles O20: each row collects at the counts of its columns. -/
theorem incompleteZppFrameCollectsTheByte : Obligations.IncompleteZppFrameCollectsTheByte := by
  intro s b hr hroom
  have collects {i : Instr} (hwf : WellFormed s.ctx i = true) :=
    (runRow_of_wellFormed hr hwf).trans (collect_of_room (b := b) hroom)
  refine ⟨fun hs hn => collects ?_, fun hs hn => collects ?_, fun hs hn => collects ?_, fun hs hn => collects ?_⟩
  · have hcount : s.pktLen + 1 = 1 ∨ s.pktLen + 1 = 2 := by omega
    simpa [WellFormed, hs] using hcount
  · simpa [WellFormed, hs, tableWriteLen_eq] using hn
  · simp [WellFormed, hs, hn]
  · simp [WellFormed, hs, hn]

/-- Settles O21: the row appends and transmits the packet, and writes nothing once answered. -/
theorem readCvFrameIsTransmittedWhole : Obligations.ReadCvFrameIsTransmittedWhole := by
  intro s b p hr ha hroom hs hn
  have hwf : WellFormed s.ctx (.zppReadCvFrameEnd b) = true := by simp [WellFormed, hs, hn]
  rw [exec, execZppReadCvFrameEnd, runRow_of_wellFormed hr hwf, State.append_of_lt hroom, State.pkt_store, ← hn]
  exact State.transmit_respond_of_answer (s := s.store b) hr ha _ _

/-- Settles O22: each row probes at the counts of its columns. -/
theorem probeIsTransmittedAlone : Obligations.ProbeIsTransmittedAlone := by
  intro s b p hr ha hroom
  have probes {i : Instr} {op : TimeoutClass} (hwf : WellFormed s.ctx i = true) :=
    (runRow_of_wellFormed hr hwf).trans (probe_of_answer (b := b) (op := op) hr ha hroom)
  refine ⟨fun hs hlo hhi => probes ?_, fun hs hn => probes ?_, fun hs hn => probes ?_⟩
  · simp [WellFormed, hs, hlo, hhi]
  · simp [WellFormed, hs, hn]
  · simp [WellFormed, hs, hn]

/-- Settles O23: each row is selected at its last count. -/
theorem lastProbeReturnsToDispatch : Obligations.LastProbeReturnsToDispatch := by
  intro s b p hr ha hroom
  have ends {i : Instr} {op : TimeoutClass} (hwf : WellFormed s.ctx i = true) :=
    (runRow_of_wellFormed hr hwf).trans (lastProbe_of_answer (b := b) (op := op) hr ha hroom)
  refine ⟨fun hs hn => ends ?_, fun hs hn => ends ?_, fun hs hn => ends ?_⟩
  all_goals simp [WellFormed, hs, hn]

/-- Settles O24: each row is selected at the length of its frame, the erase row with its security bytes. -/
theorem completedZppFrameIsTransmittedWhole : Obligations.CompletedZppFrameIsTransmittedWhole := by
  intro s b p hr ha hroom
  have ends {i : Instr} {b : Byte} {op : TimeoutClass} (hwf : WellFormed s.ctx i = true) :=
    (runRow_of_wellFormed hr hwf).trans (frameEnd_of_answer (b := b) (op := op) hr ha hroom)
  refine ⟨fun hs hn => ends ?_, fun hs hn h1 h2 => ends ?_, fun hs hn => ends ?_⟩
  · simpa [WellFormed, hs, tableWriteLen_eq] using hn
  · simp [WellFormed, hs, hn, eraseSecure_iff, h1, h2]
  · simp [WellFormed, hs, hn]

/-- Settles O25: the row of a failed security condition appends its byte and returns to dispatch. -/
theorem wrongEraseSecurityAbandonsTheFrame : Obligations.WrongEraseSecurityAbandonsTheFrame := by
  intro s b hr hroom hs hn hbad
  have hinsecure : s.ctx.eraseSecure b = false := by rwa [← Bool.not_eq_true, eraseSecure_iff]
  have hwf : WellFormed s.ctx (.zppEraseEndBad b) = true := by simp [WellFormed, hs, hn, hinsecure]
  rw [exec, execZppEraseEndBad, runRow_of_wellFormed hr hwf]
  exact State.append_of_lt hroom

end Sys2Proof.Machine
end

section
/-! The ZSU rows in full (R161 to R169): the block count, and the next state of each row once its request is
answered. -/

namespace Sys2Proof.Machine

/-! ### The block count -/

section
variable {cfg : Config} {b id : Byte}

theorem blockCount_of_ds_zero (hds : cfg.ds id = 0) : blockCount cfg b id = .error .dataSizeZero := by
  simp [blockCount, hds]

theorem blockCount_of_negative (hds : cfg.ds id ≠ 0) (hneg : (b.toNat + 1) * 256 < cfg.bl id) :
    blockCount cfg b id = .error .blockCountNegative := by
  have hnum : ((b.toNat : Int) + 1) * 256 - cfg.bl id < 0 := by omega
  simp only [blockCount, if_neg hds, if_pos hnum]

/-- From a numerator that is not negative on, the exact integers of the block count are naturals (R10, R161). -/
theorem blockCount_of_le (hds : cfg.ds id ≠ 0) (hle : cfg.bl id ≤ (b.toNat + 1) * 256) :
    blockCount cfg b id =
      .ok (((b.toNat + 1) * 256 - cfg.bl id) / cfg.ds id * if cfg.ds id = 32 then 2 else 1) := by
  have hnum : ¬ ((b.toNat : Int) + 1) * 256 - cfg.bl id < 0 := by omega
  have htoNat : (((b.toNat : Int) + 1) * 256 - cfg.bl id).toNat = (b.toNat + 1) * 256 - cfg.bl id := by omega
  simp only [blockCount, if_neg hds, if_neg hnum, htoNat, mul_ite, mul_one]

theorem blockCount_le_of_ds_32 {q : Nat} (hds : cfg.ds id = 32) (h : blockCount cfg b id = .ok q) : q ≤ 4096 := by
  have hne : cfg.ds id ≠ 0 := by omega
  obtain hneg | hle := Nat.lt_or_ge ((b.toNat + 1) * 256) (cfg.bl id)
  · cases (blockCount_of_negative hne hneg).symm.trans h
  · cases (blockCount_of_le hne hle).symm.trans h
    have hb := b.isLt
    rw [if_pos hds, hds]
    omega

end

/-- Settles O28: the two faults in their order, then the quotient; the bound for 32-byte blocks is that of the doubled
quotient. -/
theorem blockCountIsTheExactFormula : Obligations.BlockCountIsTheExactFormula := by
  intro cfg b id
  refine ⟨blockCount_of_ds_zero, blockCount_of_negative, fun hds h32 hle => ?_, fun h32 hle => ?_, fun q hq =>
    ⟨(blockCount_bounds hq).2, fun h32 => blockCount_le_of_ds_32 h32 hq⟩⟩
  · rw [blockCount_of_le hds hle, if_neg h32, Nat.mul_one]
  · rw [blockCount_of_le (by omega) hle, if_pos h32, h32]

/-! ### The rows -/

section
variable {b : Byte} {s : State} {p q : Nat} {r : FaultReason} {x : St} {op : TimeoutClass}

section
variable (hr : s.rxReady = true)
include hr

theorem State.raise_of_answered (req : TxRequest) (r : FaultReason) :
    (s.openTx req).closeTx.raise r = .next { s with fault := some r, trace := s.trace ++ [.tx req] } := by
  obtain ⟨-, htx⟩ := s.rxReady_iff.mp hr
  simp [State.raise, State.openTx, State.closeTx, State.setFault, htx]

/-- A matching security byte advances on one pulse and keeps its state on any other count (R164, R166). -/
theorem securityOk_of_answer (ha : s.txAns = some p) :
    securityOk b op x s = .next
      (if p = 1 then { s with st := x, trace := s.trace ++ [.tx ⟨[b], op⟩, .rsp .nak] }
      else { s with trace := s.trace ++ [.tx ⟨[b], op⟩, .rsp (mapPulses p)] }) := by
  rw [securityOk, State.transmit_of_answer ha]
  simp only [portPulses_eq_one, mapPulses_portPulses]
  split_ifs with h1
  · subst h1
    exact State.respond_of_answered (s := s.setSt x) hr _ _
  · exact State.respond_of_answered hr _ _

/-- Two pulses on a whole block: the underflow of a count of zero, the end of the session at one, one block fewer
otherwise (R169). -/
theorem acceptBlock_of_answered (req : TxRequest) :
    acceptBlock 2 (s.openTx req).closeTx = .next
      (if s.bc = 0 then { s with fault := some .blockCountUnderflow, trace := s.trace ++ [.tx req] }
      else if s.bc = 1 then
        { s with st := .entry, did := 0, bc := 0, pktLen := 0, trace := s.trace ++ [.tx req, .rsp .ack] }
      else { s with bc := s.bc - 1, trace := s.trace ++ [.tx req, .rsp .ack] }) := by
  have hone : s.bc - 1 = 0 ↔ s.bc = 1 := sub_eq_zero
  simp only [acceptBlock, State.closeTx_bc, State.openTx_bc, hone]
  split_ifs
  · exact State.raise_of_answered hr _ _
  · exact State.respond_of_answered (s := s.sessionReset) hr _ _
  · exact State.respond_of_answered (s := s.setBc (s.bc - 1)) hr _ _

section
variable (hs : s.st = .zsuBlockCount)
include hs

/-- One pulse and a computed count: it is stored, and the state advances (R163). -/
theorem exec_zsuBlockCount_of_ok (ha : s.txAns = some 1) (hq : blockCount s.cfg b s.did = .ok q) :
    exec (.zsuBlockCount b) s = .next
      { s with
        bc := BitVec.ofNat 32 q, st := .zsuSecurityByte1,
        trace := s.trace ++ [.tx ⟨[b], .zsuBlockCount⟩, .rsp .nak] } := by
  rw [exec, execZsuBlockCount, runRow_of_wellFormed hr (by simp [WellFormed, hs]), State.transmit_of_answer ha,
    if_pos (portPulses_eq_one.mpr rfl), State.closeTx_cfg, State.openTx_cfg, State.closeTx_did, State.openTx_did, hq]
  exact State.respond_of_answered (s := (s.setBc (BitVec.ofNat 32 q)).setSt .zsuSecurityByte1) hr _ _

/-- One pulse and a fault of the computation: it is raised after the transmit, and nothing is stored (R163). -/
theorem exec_zsuBlockCount_of_error (ha : s.txAns = some 1) (hq : blockCount s.cfg b s.did = .error r) :
    exec (.zsuBlockCount b) s = .next
      { s with fault := some r, trace := s.trace ++ [.tx ⟨[b], .zsuBlockCount⟩] } := by
  rw [exec, execZsuBlockCount, runRow_of_wellFormed hr (by simp [WellFormed, hs]), State.transmit_of_answer ha,
    if_pos (portPulses_eq_one.mpr rfl), State.closeTx_cfg, State.openTx_cfg, State.closeTx_did, State.openTx_did, hq]
  exact State.raise_of_answered hr _ _

/-- Any other count changes no register (R163). -/
theorem exec_zsuBlockCount_of_unconfirmed (ha : s.txAns = some p) (hp : p ≠ 1) :
    exec (.zsuBlockCount b) s = .next
      { s with trace := s.trace ++ [.tx ⟨[b], .zsuBlockCount⟩, .rsp (mapPulses p)] } := by
  rw [exec, execZsuBlockCount, runRow_of_wellFormed hr (by simp [WellFormed, hs]), State.transmit_of_answer ha,
    if_neg (mt portPulses_eq_one.mp hp), mapPulses_portPulses]
  exact State.respond_of_answered hr _ _

end

/-- The last byte of a block: the frame goes out and the packet is cleared, whatever the answer (R169). -/
theorem exec_zsuBlockEnd_of_answer (hs : s.st = .zsuBlocks) (hroom : s.pktLen < s.cfg.maxFrame)
    (hn : s.pktLen + 1 = s.cfg.ds s.did + 2) (ha : s.txAns = some p) :
    exec (.zsuBlockEnd b) s =
      if p = 2 then acceptBlock 2 (((s.store b).clear).openTx ⟨s.pkt ++ [b], .zsuBlock⟩).closeTx
      else .next
        { s with
          pktMem := s.pktMem.write s.pktLen b, pktLen := 0,
          trace := s.trace ++ [.tx ⟨s.pkt ++ [b], .zsuBlock⟩, .rsp (mapPulses p)] } := by
  rw [exec, execZsuBlockEnd, runRow_of_selects hr (State.selects_zsuBlockEnd hs hn), State.append_of_lt hroom,
    State.pkt_store, State.transmit_of_answer (s := s.store b) ha]
  simp only [portPulses_eq_two, mapPulses_portPulses]
  split_ifs with h2
  · subst h2
    rfl
  · exact State.respond_of_answered (s := (s.store b).clear) hr _ _

end

end

/-- Settles O26: the one row of ZsuDecoderId, with its answer. -/
theorem decoderIdIsConfirmedByTwoPulses : Obligations.DecoderIdIsConfirmedByTwoPulses :=
  fun _ _ _ hr ha hs => exec_zsuDecoderId hs hr ha

/-- Settles O29: the three ways an answered count byte can end. -/
theorem blockCountIsConfirmedByOnePulse : Obligations.BlockCountIsConfirmedByOnePulse := by
  intro s b p q hr ha hs
  refine ⟨?_, ?_, exec_zsuBlockCount_of_unconfirmed hr hs ha⟩
  · rintro rfl hq
    exact exec_zsuBlockCount_of_ok hr hs ha hq
  · rintro r rfl hq
    exact exec_zsuBlockCount_of_error hr hs ha hq

/-- Settles O30: the count byte ends with the fault of its computation, of which there are two. -/
theorem uncomputableBlockCountStopsTheEngine : Obligations.UncomputableBlockCountStopsTheEngine :=
  fun _ _ hr ha hs =>
    ⟨fun hds => exec_zsuBlockCount_of_error hr hs ha (blockCount_of_ds_zero hds),
      fun hds hneg => exec_zsuBlockCount_of_error hr hs ha (blockCount_of_negative hds hneg)⟩

/-- Settles O31: each literal is selected in its state. -/
theorem securityByteIsConfirmedByOnePulse : Obligations.SecurityByteIsConfirmedByOnePulse := by
  intro s p hr ha
  refine ⟨fun hs => ?_, fun hs => ?_⟩
  · exact (runRow_of_wellFormed hr (by simp [WellFormed, hs])).trans (securityOk_of_answer hr ha)
  · exact (runRow_of_wellFormed hr (by simp [WellFormed, hs])).trans (securityOk_of_answer hr ha)

/-- Settles O32: any byte but the literal is selected as a violation in its state, and all it does is the reset of the
session and the answer. -/
theorem wrongSecurityByteResetsTheSession : Obligations.WrongSecurityByteResetsTheSession :=
  fun _ _ hr =>
    ⟨fun hs hb => runRow_of_wellFormed hr (by simpa [WellFormed, hs] using hb),
      fun hs hb => runRow_of_wellFormed hr (by simpa [WellFormed, hs] using hb)⟩

/-- Settles O33: the row is selected short of a whole block, and appends or overflows. -/
theorem incompleteBlockCollectsTheByte : Obligations.IncompleteBlockCollectsTheByte := by
  intro s b hr hs hn
  have hrow : exec (.zsuBlockByte b) s = collect b s := runRow_of_selects hr (State.selects_zsuBlockByte hs hn)
  exact ⟨fun hroom => hrow.trans (collect_of_room hroom),
    fun hfull => hrow.trans (State.append_of_full hfull.ge)⟩

/-- Settles O35: the frame goes out and the packet is cleared, and two pulses accept the block. -/
theorem completedBlockFollowsThePulseCount : Obligations.CompletedBlockFollowsThePulseCount := by
  intro s b p hr ha hs hroom hn
  rw [exec_zsuBlockEnd_of_answer hr hs hroom hn ha]
  by_cases h2 : p = 2
  · rw [if_pos h2, if_neg (not_not.mpr h2)]
    exact acceptBlock_of_answered (s := (s.store b).clear) hr _
  · rw [if_neg h2, if_pos h2]

end Sys2Proof.Machine
end

section
/-! The order of the ZSU states (R160): each answered row stays or advances on its own pulse count. -/

namespace Sys2Proof.Machine

section
variable {b : Byte} {s t : State} {m : Nat} {next : St} {bytes : List Byte} {op : TimeoutClass}
  {k : Nat → State → Result}

/-- Every count below the port's largest passes the port unmistakably (R209). -/
theorem portPulses_eq_iff {p : Nat} (hm : m < 255) : portPulses p = m ↔ p = m := by
  simp only [portPulses, Config.pulseWidth]
  omega

/-- A request that `m` pulses confirm advances on that answer only; with no answer it waits in its state (R209, I8). -/
theorem State.st_eq_of_transmit (hm : m < 255) (h : s.transmit bytes op k = .next t)
    (hk : ∀ p v, v.st = s.st → k p v = .next t → t.st = if p = m then next else s.st) :
    t.st = if s.txAns = some m then next else s.st := by
  obtain ⟨ha, rfl⟩ | ⟨p, ha, h⟩ := State.transmit_eq_next h
  · simp [ha]
  · have hst := hk _ (s.openTx ⟨bytes, op⟩).closeTx rfl h
    simpa only [ha, portPulses_eq_iff hm, Option.some.injEq] using hst

theorem gotoZsuDecoderId_st (h : gotoZsuDecoderId b s = .next t) :
    t.st = if s.txAns = some 2 then .zsuBlockCount else s.st := by
  unfold gotoZsuDecoderId at h
  obtain ⟨-, -, h⟩ := runRow_eq_next h
  refine State.st_eq_of_transmit (by decide) h fun p v hv h => ?_
  split_ifs at h ⊢ <;> cases h
  · rfl
  · exact hv

/-- A count byte advances on one pulse, unless its computation faults (R163). -/
theorem execZsuBlockCount_st (h : execZsuBlockCount b s = .next t) (hfault : t.fault = none) :
    t.st = if s.txAns = some 1 then .zsuSecurityByte1 else s.st := by
  obtain ⟨-, -, h⟩ := runRow_eq_next h
  refine State.st_eq_of_transmit (by decide) h fun p v hv h => ?_
  split_ifs at h ⊢
  · cases hq : blockCount v.cfg b v.did with
    | error r =>
      rw [hq] at h
      cases h
      cases hfault
    | ok q =>
      rw [hq] at h
      cases h
      rfl
  · cases h
    exact hv

theorem securityOk_st (h : securityOk b op next s = .next t) :
    t.st = if s.txAns = some 1 then next else s.st := by
  refine State.st_eq_of_transmit (by decide) h fun p v hv h => ?_
  split_ifs at h ⊢ <;> cases h
  · rfl
  · exact hv

/-- What the two security handlers share: a violation returns to Entry, the literal advances on one pulse (R164 to
R167). -/
theorem selectLiteral_st {literal : Byte} {i i' : Instr}
    (h : selectLiteral b literal (runRow i s (securityOk literal op next)) (runRow i' s securityBad) = .next t) :
    t.st = if b ≠ literal then .entry else if s.txAns = some 1 then next else s.st := by
  unfold selectLiteral at h
  split_ifs at h with hb
  all_goals obtain ⟨-, -, h⟩ := runRow_eq_next h
  · rw [if_neg (not_not.mpr hb)]
    exact securityOk_st h
  · rw [if_pos hb]
    cases h
    rfl

/-- A block byte stays in ZsuBlocks, whatever its block does; only the last accepted block ends the session (R168,
R169). -/
theorem receive_zsuBlocks_st (hs : s.st = .zsuBlocks) (h : receive b s = .next t) :
    t.st = .zsuBlocks ∨ (t.st = .entry ∧ s.txAns = some 2) := by
  obtain h | ⟨-, ha, h⟩ := receive_zsuBlocks hs h
  · exact .inl ((h.st_eq rfl).trans hs)
  · cases h with
    | underflows _ ht | counts _ ht => exact .inl (ht.st_eq.trans hs)
    | last ht => exact .inr ⟨ht.st_eq, ha⟩

end

/-- Settles O48: a step on a byte is what its handler does, and each handler of the branch has its states. -/
theorem zsuStatesAdvanceInOrder : Obligations.ZsuStatesAdvanceInOrder := by
  intro s t b answer rest he h
  obtain ⟨-, h⟩ := receive_of_step_rx he h
  have hget := h
  refine ⟨fun hs => ?_, fun hs hfault => ?_, fun hs => ?_, fun hs => ?_, fun hs =>
    receive_zsuBlocks_st (s := s.accept rest answer) hs h⟩
  all_goals
    simp only [receive, State.accept_st, hs] at hget
    rw [← hs]
  · exact gotoZsuDecoderId_st hget
  · exact execZsuBlockCount_st hget hfault
  · exact selectLiteral_st hget
  · exact selectLiteral_st hget

end Sys2Proof.Machine
end

section
/-! A full ZSU session (R172): runs over a list of events, what the engine is at between two bytes of a session, and the
phases of a session one after the other. -/

namespace Sys2Proof.Machine

/-! ### Runs over a list of events -/

/-- As many steps as there are events lead to a state that `P` holds of. -/
def RunsTo (es : List EnvEvent) (P : State → Prop) (s : State) : Prop :=
  ∃ t, Sys2Proof.core.run es.length s = .next t ∧ P t

section
variable {e : EnvEvent} {es es' : List EnvEvent} {P Q : State → Prop} {s u : State}

theorem RunsTo.nil (h : P s) : RunsTo [] P s := ⟨s, rfl, h⟩

theorem runsTo_cons : RunsTo (e :: es) P s ↔ ∃ u, step s = .next u ∧ RunsTo es P u := by
  have hstep : Sys2Proof.core.step s = step s := rfl
  simp only [RunsTo, List.length_cons, Host.Core.run, hstep]
  cases step s <;> simp

theorem RunsTo.append (h : RunsTo es P s) (hnext : ∀ u, P u → RunsTo es' Q u) : RunsTo (es ++ es') Q s := by
  induction es generalizing s with
  | nil =>
    obtain ⟨t, ht, hP⟩ := h
    cases ht
    exact hnext s hP
  | cons e es ih =>
    obtain ⟨u, hu, h⟩ := runsTo_cons.mp h
    exact runsTo_cons.mpr ⟨u, hu, ih h⟩

theorem RunsTo.cons (h : ∃ u, step s = .next u ∧ P u) (hnext : ∀ u, P u → RunsTo es Q u) : RunsTo (e :: es) Q s := by
  obtain ⟨u, hu, hP⟩ := h
  exact runsTo_cons.mpr ⟨u, hu, hnext u hP⟩

end

/-! ### The engine between two bytes -/

/-- A ready engine with these registers and events to come. The stored bytes, the last answer and what has left the engine
are no concern of a session. -/
structure State.Awaits (s : State) (c : Config) (x : St) (id : Byte) (left : BitVec 32) (n : Nat)
    (rest : List EnvEvent) : Prop where
  cfg : s.cfg = c
  ready : s.rxReady = true
  st : s.st = x
  did : s.did = id
  bc : s.bc = left
  pktLen : s.pktLen = n
  env : s.env = rest

/-- Before a session is selected: Entry or Preamble, with no context. -/
def State.AwaitsSession (s : State) (c : Config) (rest : List EnvEvent) : Prop :=
  s.Awaits c .entry 0 0 0 rest ∨ s.Awaits c .preamble 0 0 0 rest

/-- After an accepted block: back in Entry if it was the last one, else with one block fewer to come (R169). -/
def State.AwaitsAfterBlock (s : State) (c : Config) (id : Byte) (left : BitVec 32) (rest : List EnvEvent) : Prop :=
  if left = 1 then s.Awaits c .entry 0 0 0 rest else s.Awaits c .zsuBlocks id (left - 1) 0 rest

section
variable {s u : State} {c : Config} {x : St} {b id count : Byte} {left : BitVec 32} {n p q : Nat} {answer : Option Nat}
  {rest : List EnvEvent} {i : Instr}

theorem State.Awaits.step_eq (h : s.Awaits c x id left n (.rx b answer :: rest))
    (hd : decode s.ctx (.rx b) = .row i) (hu : exec i (s.accept rest answer) = .next u) : step s = .next u :=
  (step_of_rx h.ready h.env hd).trans hu

/-! ### The common phase -/

/-- A preamble code leaves the engine before its session. In Entry it is skipped if the banner has it (R100, R102). -/
theorem State.AwaitsSession.step_code (h : s.AwaitsSession c (.rx b (some p) :: rest)) (hb : b = c.pre0 ∨ b = c.pre1) :
    ∃ u, step s = .next u ∧ u.AwaitsSession c rest := by
  obtain h | h := h
  all_goals
    obtain rfl := h.cfg
    have hcode := preambleCodeIsTransmittedAlone (s.accept rest (some p)) b p h.ready rfl hb
  · by_cases hbanner : b ∈ s.cfg.banner
    · exact ⟨_, h.step_eq (decode_banner h.st hbanner) (exec_entrySkip h.ready h.st hbanner),
        .inl ⟨rfl, h.ready, h.st, h.did, h.bc, h.pktLen, rfl⟩⟩
    · exact ⟨_, h.step_eq (decode_entry h.st hbanner) (hcode.2 h.st hbanner),
        .inr ⟨rfl, h.ready, rfl, h.did, h.bc, h.pktLen, rfl⟩⟩
  · exact ⟨_, h.step_eq (decode_code h.st hb) (hcode.1 h.st), .inr ⟨rfl, h.ready, h.st, h.did, h.bc, h.pktLen, rfl⟩⟩

theorem State.AwaitsSession.runsTo_codes {run : List Byte} (hrun : ∀ b ∈ run, b = c.pre0 ∨ b = c.pre1)
    (h : s.AwaitsSession c (run.map (fun b => .rx b (some 2)) ++ rest)) :
    RunsTo (run.map fun b => .rx b (some 2)) (·.AwaitsSession c rest) s := by
  induction run generalizing s with
  | nil => exact .nil h
  | cons b run ih =>
    obtain ⟨hb, hrun⟩ := List.forall_mem_cons.mp hrun
    exact .cons (h.step_code hb) fun _ => ih hrun

/-- The banner is printable or a carriage return, so it has no byte that selects ZSU (R7, R61). -/
theorem not_mem_banner_of_wellFormed (hcfg : c.WellFormed) (hb : 0x80 ≤ b) : b ∉ c.banner := by
  obtain ⟨-, -, hprintable, -, -⟩ := hcfg
  intro hmem
  have hb' : 0x80 ≤ b.toNat := hb
  have hbanner := hprintable b hmem
  simp only [Config.bannerByte, Bool.or_eq_true, Bool.and_eq_true, decide_eq_true_eq, beq_iff_eq] at hbanner
  obtain h | rfl := hbanner
  · omega
  · exact absurd hb' (by decide)

/-- A byte that selects ZSU is confirmed as the identifier by two pulses, from Entry and from Preamble (R101, R104,
R162). -/
theorem State.AwaitsSession.step_id (h : s.AwaitsSession c (.rx id (some 2) :: rest)) (hcfg : c.WellFormed)
    (hid : 0x80 ≤ id) (h0 : id ≠ c.pre0) (h1 : id ≠ c.pre1) :
    ∃ u, step s = .next u ∧ u.Awaits c .zsuBlockCount id 0 0 rest := by
  obtain h | h := h
  all_goals
    obtain rfl := h.cfg
    have hselect {v : State} (hv : v.st = .preamble) (hc : v.cfg = s.cfg) (hr : v.rxReady = true)
        (ha : v.txAns = some 2) := selectingByteIsTheFirstDecoderId v id 2 hr ha hv (hc ▸ h0) (hc ▸ h1) hid
  · have hbanner := not_mem_banner_of_wellFormed hcfg hid
    have hd : decode ((s.accept rest (some 2)).setSt .preamble).ctx (.rx id) = .row (.preSelectZsu id) :=
      decode_selectZsu rfl h0 h1 hid
    have hexec :=
      (exec_entryFallthrough (s := s.accept rest (some 2)) h.ready h.st hbanner).trans (exec_eq_receive hd).symm
    exact ⟨_, h.step_eq (decode_entry h.st hbanner) (hexec.trans (hselect rfl rfl h.ready rfl)),
      rfl, h.ready, rfl, rfl, h.bc, h.pktLen, rfl⟩
  · exact ⟨_, h.step_eq (decode_selectZsu h.st h0 h1 hid)
      (hselect (v := s.accept rest (some 2)) h.st rfl h.ready rfl), rfl, h.ready, rfl, rfl, h.bc, h.pktLen, rfl⟩

/-! ### The head of the session -/

theorem State.Awaits.step_count (h : s.Awaits c .zsuBlockCount id 0 0 (.rx count (some 1) :: rest))
    (hq : blockCount c count id = .ok q) :
    ∃ u, step s = .next u ∧ u.Awaits c .zsuSecurityByte1 id (BitVec.ofNat 32 q) 0 rest := by
  have hd : decode s.ctx (.rx count) = .row (.zsuBlockCount count) := by simp [decode, decodeByte, h.st]
  have hq : blockCount s.cfg count s.did = .ok q := by rw [h.cfg, h.did, hq]
  exact ⟨_, h.step_eq hd (exec_zsuBlockCount_of_ok (s := s.accept rest (some 1)) h.ready h.st rfl hq),
    h.cfg, h.ready, rfl, h.did, rfl, h.pktLen, rfl⟩

theorem State.Awaits.step_security1 (h : s.Awaits c .zsuSecurityByte1 id left 0 (.rx 0x55 (some 1) :: rest)) :
    ∃ u, step s = .next u ∧ u.Awaits c .zsuSecurityByte2 id left 0 rest := by
  have hd : decode s.ctx (.rx 0x55) = .row .zsuSec1Ok := by simp [decode, decodeByte, selectLiteral, h.st]
  exact ⟨_, h.step_eq hd ((securityByteIsConfirmedByOnePulse (s.accept rest (some 1)) 1 h.ready rfl).1 h.st),
    h.cfg, h.ready, rfl, h.did, h.bc, h.pktLen, rfl⟩

theorem State.Awaits.step_security2 (h : s.Awaits c .zsuSecurityByte2 id left 0 (.rx 0xAA (some 1) :: rest)) :
    ∃ u, step s = .next u ∧ u.Awaits c .zsuBlocks id left 0 rest := by
  have hd : decode s.ctx (.rx 0xAA) = .row .zsuSec2Ok := by simp [decode, decodeByte, selectLiteral, h.st]
  exact ⟨_, h.step_eq hd ((securityByteIsConfirmedByOnePulse (s.accept rest (some 1)) 1 h.ready rfl).2 h.st),
    h.cfg, h.ready, rfl, h.did, h.bc, h.pktLen, rfl⟩

/-! ### The blocks -/

section
variable (hmax : c.ds id + 2 ≤ c.maxFrame)
include hmax

/-- A byte short of a whole block is collected, whatever stands with it as an answer (R168). -/
theorem State.Awaits.step_blockByte (h : s.Awaits c .zsuBlocks id left n (.rx b answer :: rest))
    (hn : n + 1 < c.ds id + 2) : ∃ u, step s = .next u ∧ u.Awaits c .zsuBlocks id left (n + 1) rest := by
  have hcount : s.pktLen + 1 < s.cfg.ds s.did + 2 := by rwa [h.pktLen, h.cfg, h.did]
  have hroom : s.pktLen < s.cfg.maxFrame := by rw [h.pktLen, h.cfg]; omega
  have hd : decode s.ctx (.rx b) = .row (.zsuBlockByte b) := beq_iff_eq.mp (State.selects_zsuBlockByte h.st hcount)
  have hlen : s.pktLen + 1 = n + 1 := congrArg (· + 1) h.pktLen
  exact ⟨_, h.step_eq hd ((incompleteBlockCollectsTheByte (s.accept rest answer) b h.ready h.st hcount).1 hroom),
    h.cfg, h.ready, h.st, h.did, h.bc, hlen, rfl⟩

/-- The last byte of a block that is still counted, with two pulses (R169). -/
theorem State.Awaits.step_blockEnd (h : s.Awaits c .zsuBlocks id left n (.rx b (some 2) :: rest))
    (hn : n + 1 = c.ds id + 2) (hleft : left ≠ 0) : ∃ u, step s = .next u ∧ u.AwaitsAfterBlock c id left rest := by
  have hcount : s.pktLen + 1 = s.cfg.ds s.did + 2 := by rwa [h.pktLen, h.cfg, h.did]
  have hroom : s.pktLen < s.cfg.maxFrame := by rw [h.pktLen, h.cfg]; omega
  have hd : decode s.ctx (.rx b) = .row (.zsuBlockEnd b) := beq_iff_eq.mp (State.selects_zsuBlockEnd h.st hcount)
  have hbc : (s.accept rest (some 2)).bc = left := h.bc
  have hexec := completedBlockFollowsThePulseCount (s.accept rest (some 2)) b 2 h.ready rfl h.st hroom hcount
  rw [if_neg (not_not.mpr rfl), hbc, if_neg hleft] at hexec
  refine ⟨_, h.step_eq hd hexec, ?_⟩
  unfold State.AwaitsAfterBlock
  split_ifs
  · exact ⟨h.cfg, h.ready, rfl, rfl, rfl, rfl, rfl⟩
  · exact ⟨h.cfg, h.ready, h.st, h.did, rfl, rfl, rfl⟩

/-- The rest of a block, from any byte of it on. -/
theorem State.Awaits.runsTo_block {f : List Byte} (h : s.Awaits c .zsuBlocks id left n (blockEvents f ++ rest))
    (hf : f ≠ []) (hn : n + f.length = c.ds id + 2) (hleft : left ≠ 0) :
    RunsTo (blockEvents f) (·.AwaitsAfterBlock c id left rest) s := by
  induction f generalizing s n with
  | nil => exact absurd rfl hf
  | cons b f ih =>
    cases f with
    | nil => exact .cons (State.Awaits.step_blockEnd hmax h hn hleft) fun _ hu => .nil hu
    | cons b' f =>
      simp only [List.length_cons] at hn ih
      refine .cons (State.Awaits.step_blockByte hmax h (by omega)) fun u hu => ?_
      exact ih hu (List.cons_ne_nil _ _) (by omega)

/-- Blocks that leave at least one to come: each counts `bc` down by one. -/
theorem State.Awaits.runsTo_blocks {blocks : List (List Byte)}
    (h : s.Awaits c .zsuBlocks id (BitVec.ofNat 32 q) 0 (blocks.flatMap blockEvents ++ rest))
    (hlen : ∀ f ∈ blocks, f.length = c.ds id + 2) (hlt : blocks.length < q) (hq : q ≤ 65536) :
    RunsTo (blocks.flatMap blockEvents) (·.Awaits c .zsuBlocks id (BitVec.ofNat 32 (q - blocks.length)) 0 rest) s := by
  induction blocks generalizing s q with
  | nil => exact .nil h
  | cons f blocks ih =>
    obtain ⟨hf, hlen⟩ := List.forall_mem_cons.mp hlen
    rw [List.length_cons] at hlt ⊢
    have hzero : BitVec.ofNat 32 q ≠ 0 := by bv_omega
    have hone : BitVec.ofNat 32 q ≠ 1 := by bv_omega
    have hpred : BitVec.ofNat 32 q - 1 = BitVec.ofNat 32 (q - 1) := by bv_omega
    rw [List.flatMap_cons, List.append_assoc] at h
    have hne : f ≠ [] := List.ne_nil_of_length_pos (by omega)
    refine (h.runsTo_block hmax hne (by omega) hzero).append fun u hu => ?_
    rw [State.AwaitsAfterBlock, if_neg hone, hpred] at hu
    rw [Nat.add_comm, ← Nat.sub_sub]
    exact ih hu hlen (by omega) (by omega)

end

/-! ### The session -/

theorem sessionEvents_append (run : List Byte) (id count : Byte) (blocks more : List (List Byte)) :
    sessionEvents run id count (blocks ++ more) =
      sessionEvents run id count blocks ++ more.flatMap blockEvents := by
  simp [sessionEvents]

section
variable {run : List Byte} {blocks : List (List Byte)} (hcfg : c.WellFormed) (hrun : ∀ b ∈ run, b = c.pre0 ∨ b = c.pre1)
  (hid : 0x80 ≤ id) (h0 : id ≠ c.pre0) (h1 : id ≠ c.pre1) (hq : blockCount c count id = .ok q)
  (hlen : ∀ f ∈ blocks, f.length = c.ds id + 2) (hmax : c.ds id + 2 ≤ c.maxFrame)
include hcfg hrun hid h0 h1 hq hlen hmax

/-- A session up to some of its blocks, not all. -/
theorem State.AwaitsSession.runsTo_blocks (h : s.AwaitsSession c (sessionEvents run id count blocks ++ rest))
    (hlt : blocks.length < q) :
    RunsTo (sessionEvents run id count blocks)
      (·.Awaits c .zsuBlocks id (BitVec.ofNat 32 (q - blocks.length)) 0 rest) s := by
  unfold sessionEvents at h ⊢
  rw [List.append_assoc, List.append_assoc] at h
  rw [List.append_assoc]
  refine (h.runsTo_codes hrun).append fun u hu => ?_
  refine .cons (hu.step_id hcfg hid h0 h1) fun u hu => ?_
  refine .cons (hu.step_count hq) fun u hu => ?_
  refine .cons hu.step_security1 fun u hu => ?_
  refine .cons hu.step_security2 fun u hu => ?_
  exact hu.runsTo_blocks hmax hlen hlt (blockCount_bounds hq).2

/-- A session with all of its blocks. -/
theorem State.AwaitsSession.runsTo_entry {last : List Byte}
    (h : s.AwaitsSession c (sessionEvents run id count (blocks ++ [last]) ++ rest))
    (hlast : last.length = c.ds id + 2) (hall : q = blocks.length + 1) :
    RunsTo (sessionEvents run id count (blocks ++ [last])) (·.Awaits c .entry 0 0 0 rest) s := by
  subst hall
  rw [sessionEvents_append, List.append_assoc] at h
  rw [sessionEvents_append]
  refine (h.runsTo_blocks hcfg hrun hid h0 h1 hq hlen hmax (by omega)).append fun u hu => ?_
  rw [Nat.add_sub_cancel_left] at hu
  rw [List.flatMap_singleton] at hu ⊢
  have hne : last ≠ [] := List.ne_nil_of_length_pos (by omega)
  exact hu.runsTo_block hmax hne (by omega) (by decide)

end

end

/-- Between steps the invariant leaves Entry and Preamble no context and no packet (R28, R30). -/
theorem Inv.awaitsSession {s : State} (hi : Inv s) (hr : s.rxReady = true) (hs : s.st = .entry ∨ s.st = .preamble) :
    s.AwaitsSession s.cfg s.env := by
  obtain ⟨-, htx⟩ := s.rxReady_iff.mp hr
  have hframed := hi.framing htx
  refine hs.imp (fun hs => ?_) (fun hs => ?_)
  all_goals
    simp only [State.Framed, hs] at hframed
    obtain ⟨hlen, hdid, hbc⟩ := hframed
    exact ⟨rfl, hr, hs, hdid, hbc, hlen, rfl⟩

/-- Settles O56: the blocks taken so far leave the engine in ZsuBlocks, and the last one ends the session. -/
theorem fullZsuSessionEndsInEntry : Obligations.FullZsuSessionEndsInEntry := by
  intro s run id count blocks hi hr hs hrun hid h0 h1 hq hpos hlen hmax henv
  have hstart := hi.awaitsSession hr hs
  refine ⟨fun k hk => ?_, ?_⟩
  · rw [henv, ← List.take_append_drop k blocks, sessionEvents_append] at hstart
    have hcount : (blocks.take k).length = k := List.length_take_of_le hk.le
    obtain ⟨u, hu, h⟩ := hstart.runsTo_blocks hi.config hrun hid h0 h1 hq
      (fun f hf => hlen f (List.mem_of_mem_take hf)) hmax (hcount.trans_lt hk)
    rw [hcount] at h
    exact ⟨u, hu, h.st, h.did, h.bc, h.pktLen, (u.rxReady_iff.mp h.ready).1⟩
  · have hne : blocks ≠ [] := List.ne_nil_of_length_pos hpos
    rw [henv, ← List.dropLast_append_getLast hne, ← List.append_nil (sessionEvents ..)] at hstart
    obtain ⟨t, ht, h⟩ := hstart.runsTo_entry hi.config hrun hid h0 h1 hq
      (fun f hf => hlen f (List.mem_of_mem_dropLast hf)) hmax (hlen _ (List.getLast_mem hne))
      (by rw [List.length_dropLast]; omega)
    rw [List.dropLast_append_getLast] at ht
    exact ⟨t, ht, h.st, h.did, h.bc, h.pktLen, (t.rxReady_iff.mp h.ready).1, h.env⟩

end Sys2Proof.Machine
end

section
/-! Who writes the `fault` register in a step, and why (R41, R163, R169, R202, R205). -/

namespace Sys2Proof.Machine

section
variable {b : Byte} {s t v done : State} {more : Prop}

theorem State.EndsIn.fault_eq (h : v.EndsIn t) : t.fault = v.fault := by
  obtain ⟨_, _, _, rfl⟩ := h
  rfl

/-- An append raises the overflow or no fault; what it goes on to is `done` or leaves the register alone (R41). -/
theorem Collected.fault_eq (h : Collected b s more done t) (hdone : done.fault = s.fault) :
    t.fault = s.fault ∨ (s.cfg.maxFrame ≤ s.pktLen ∧ t.fault = some .packetOverflow) := by
  cases h with
  | overflow hfull ht => exact .inr ⟨hfull, ht.fault_eq⟩
  | waits _ _ _ _ ht => subst ht; exact .inl rfl
  | stays _ _ ht => exact .inl ht.fault_eq
  | completes _ ht => exact .inl (ht.fault_eq.trans hdone)

/-- A block count cannot be computed for two reasons, the first tested first (R161). -/
theorem blockCount_eq_error {cfg : Config} {id : Byte} {r : FaultReason} (h : blockCount cfg b id = .error r) :
    (cfg.ds id = 0 ∧ r = .dataSizeZero) ∨
      (cfg.ds id ≠ 0 ∧ (b.toNat + 1) * 256 < cfg.bl id ∧ r = .blockCountNegative) := by
  by_cases hds : cfg.ds id = 0
  · cases (blockCount_of_ds_zero hds).symm.trans h
    exact .inl ⟨hds, rfl⟩
  obtain hneg | hle := Nat.lt_or_ge ((b.toNat + 1) * 256) (cfg.bl id)
  · cases (blockCount_of_negative hds hneg).symm.trans h
    exact .inr ⟨hds, hneg, rfl⟩
  · cases (blockCount_of_le hds hle).symm.trans h

/-- How a byte may write the `fault` register: not at all, by an append at capacity in ZsuBlocks, by a confirmed block
count that cannot be computed, or by an accepted block that no count is left for. -/
inductive FaultWrite (b : Byte) (s t : State) : Prop
  | held (hfault : t.fault = s.fault)
  | overflow (hs : s.st = .zsuBlocks) (hfull : s.cfg.maxFrame ≤ s.pktLen) (hn : s.pktLen + 1 ≤ s.cfg.ds s.did + 2)
      (hfault : t.fault = some .packetOverflow)
  | blockCount (hs : s.st = .zsuBlockCount) (hans : s.txAns = some 1) (r : FaultReason)
      (hq : blockCount s.cfg b s.did = .error r) (hfault : t.fault = some r)
  | underflow (hs : s.st = .zsuBlocks) (hans : s.txAns = some 2) (hbc : s.bc = 0)
      (hn : s.pktLen + 1 = s.cfg.ds s.did + 2) (hfault : t.fault = some .blockCountUnderflow)

theorem FaultWrite.of_sendFrame (h : SendFrame s t) : FaultWrite b s t := .held h.fault

theorem FaultWrite.of_gotoPreamble {x : St} (hmax : 0 < s.cfg.maxFrame) (h : gotoPreamble b (s.setSt x) = .next t) :
    FaultWrite b s t := by
  obtain h | h | h := gotoPreamble_eq_next h
  · exact .of_sendFrame ((SendFrame.of_setSt s x).of_sentAlone h)
  · exact .held ((CollectFrame.of_gotoZppDispatch h).fault.resolve_right (Nat.not_le.mpr hmax))
  · exact .of_sendFrame ((SendFrame.of_setSt s .zsuDecoderId).of_gotoZsuDecoderId h)

/-- The fault of the computation is raised after the confirming pulse only (R163). -/
theorem FaultWrite.of_blockCount (hs : s.st = .zsuBlockCount) (h : execZsuBlockCount b s = .next t) :
    FaultWrite b s t := by
  obtain ⟨-, -, h⟩ := runRow_eq_next h
  obtain ⟨-, rfl⟩ | ⟨p, hp, h⟩ := State.transmit_eq_next h
  · exact .held rfl
  rw [State.closeTx_cfg, State.openTx_cfg, State.closeTx_did, State.openTx_did] at h
  split_ifs at h with h1
  · rw [portPulses_eq_one] at h1
    cases hq : Machine.blockCount s.cfg b s.did with
    | error r =>
      rw [hq] at h
      cases h
      exact .blockCount hs (h1 ▸ hp) r hq rfl
    | ok q =>
      rw [hq] at h
      cases h
      exact .held rfl
  · cases h
    exact .held rfl

/-- A security byte writes no `fault`: it advances, stays or resets the session (R164 to R167). -/
theorem FaultWrite.of_security {x : St} (h : SentAlone b s t ∨ (s.setSt x).EndsIn t ∨ s.sessionReset.EndsIn t) :
    FaultWrite b s t := by
  obtain h | h | h := h
  · exact .of_sendFrame ((SendFrame.refl s).of_sentAlone h)
  · exact .held h.fault_eq
  · exact .held h.fault_eq

/-- A byte short of a whole block may overflow; the last one may, or may underflow once it is accepted (R168, R169). -/
theorem FaultWrite.of_blocks (hs : s.st = .zsuBlocks) (hr : s.rxReady = true)
    (hn : s.pktLen + 1 ≤ s.cfg.ds s.did + 2) (h : receive b s = .next t) : FaultWrite b s t := by
  have appends {more : Prop} {done : State} (hc : Collected b s more done t) (hdone : done.fault = s.fault) :
      FaultWrite b s t := by
    obtain hheld | ⟨hfull, hraised⟩ := hc.fault_eq hdone
    · exact .held hheld
    · exact .overflow hs hfull hn hraised
  obtain hlt | hend := hn.lt_or_eq
  · have hd : decode s.ctx (.rx b) = .row (.zsuBlockByte b) := beq_iff_eq.mp (State.selects_zsuBlockByte hs hlt)
    rw [receive_of_decode hd hr rfl] at h
    exact appends (.of_collect trivial h) (done := s) rfl
  · obtain h | ⟨-, hans, h⟩ := receive_zsuBlocks hs h
    · exact appends h rfl
    · cases h with
      | underflows hbc ht => exact .underflow hs hans hbc hend ht.fault_eq
      | last ht | counts _ ht => exact .held ht.fault_eq

/-- The `fault` register after a byte, in every state. -/
theorem FaultWrite.of_receive (hi : Inv s) (hr : s.rxReady = true) (h : receive b s = .next t) : FaultWrite b s t := by
  have hten := hi.sound.ten_le_maxFrame
  have hmax : 0 < s.cfg.maxFrame := by omega
  have hframed := hi.framing (hi.taking hr).tx
  have zpp (hs : isZpp s.st = true) : FaultWrite b s t :=
    .held ((ZppTaken.of_receive hs h).fault_eq (hframed.room_of_isZpp hs hten))
  have hget := h
  cases hs : s.st <;> simp only [receive, hs] at hget
  case entry =>
    obtain h | h := receive_entry hs h
    · exact .held h.fault_eq
    · exact .of_gotoPreamble hmax h
  case preamble => exact .of_gotoPreamble (x := s.st) hmax hget
  case zsuDecoderId => exact .of_sendFrame ((SendFrame.refl s).of_gotoZsuDecoderId hget)
  case zsuBlockCount => exact .of_blockCount hs hget
  case zsuSecurityByte1 | zsuSecurityByte2 => exact .of_security (selectLiteral_eq_next hget)
  case zsuBlocks =>
    obtain ⟨hlen, -, -⟩ := (State.framed_of_zsuBlocks hs).mp hframed
    exact .of_blocks hs hr (by omega) h
  all_goals exact zpp (by rw [hs]; rfl)

end

/-- Settles O45: an idle step and the resets raise no fault, and a byte does in three ways, one of them with two
reasons. -/
theorem faultsHaveOnlyTheirListedCauses : Obligations.FaultsHaveOnlyTheirListedCauses := by
  intro s t r hi hnone h hfault
  obtain ⟨-, rfl⟩ | ⟨_, _, -, rfl⟩ | ⟨_, -, -, rfl⟩ | ⟨b, answer, rest, he, hr, h⟩ := step_eq_next h
  · cases hnone.symm.trans hfault
  · cases hfault
  · cases hnone.symm.trans hfault
  cases FaultWrite.of_receive (hi.accept rest answer) hr h with
  | held hheld => cases (hheld.trans hnone).symm.trans hfault
  | overflow hs hfull hn hraised =>
    cases hraised.symm.trans hfault
    exact ⟨fun _ => ⟨hs, hi.capacity.antisymm hfull, hn, b, answer, rest, he⟩, nofun, nofun, nofun⟩
  | blockCount hs hans r' hq hraised =>
    cases hraised.symm.trans hfault
    obtain rfl : answer = some 1 := hans
    obtain ⟨hds, rfl⟩ | ⟨hds, hneg, rfl⟩ := blockCount_eq_error hq
    · exact ⟨nofun, fun _ => ⟨hs, hds, b, rest, he⟩, nofun, nofun⟩
    · exact ⟨nofun, nofun, fun _ => ⟨hs, hds, b, rest, he, hneg⟩, nofun⟩
  | underflow hs hans hbc hn hraised =>
    cases hraised.symm.trans hfault
    obtain rfl : answer = some 2 := hans
    exact ⟨nofun, nofun, nofun, fun _ => ⟨hs, hbc, hn, b, rest, he⟩⟩

end Sys2Proof.Machine
end

section
/-! The pulse port (R209), and an engine that takes no step (R203, R204, I8). -/

namespace Sys2Proof.Machine

theorem portPulses_of_gt {p : Nat} (h : 255 < p) : portPulses p = 255 := by
  simp only [portPulses, Config.pulseWidth]
  omega

/-- While `rx_ready` is low, no action of the environment but power-on is a step (R89, R203). -/
theorem step_of_not_ready {s : State} (hr : s.rxReady = false) (he : ∀ contents rest, s.env ≠ .por contents :: rest) :
    step s = .fault s.stopReason := by
  unfold step fetch
  match henv : s.env with
  | [] => simp [hr]
  | .rx _ _ :: _ => simp [hr]
  | .reset :: _ => simp [hr]
  | .por contents :: rest => exact absurd henv (he contents rest)

/-- Settles O2: a count up to 255 passes the port and a larger one saturates; neither changes the mapper's answer. -/
theorem saturatingPulsePortKeepsTheResponse : Obligations.SaturatingPulsePortKeepsTheResponse :=
  fun p => ⟨fun h => portPulses_of_lt (Nat.lt_succ_of_le h), portPulses_of_gt, mapPulses_portPulses p⟩

/-- Settles O5: the reason in the `fault` register is why the engine stops. -/
theorem stoppedEngineTakesNoStep : Obligations.StoppedEngineTakesNoStep := by
  intro s r hfault he
  rw [step_of_not_ready (by simp [State.rxReady, hfault]) he, State.stopReason, hfault]

/-- Settles O6: with no reason in the `fault` register it is the pending request. -/
theorem waitingEngineTakesNoStep : Obligations.WaitingEngineTakesNoStep := by
  intro s q hfault htx he
  rw [step_of_not_ready (by simp [State.rxReady, htx]) he, State.stopReason, hfault]

end Sys2Proof.Machine
end

section
/-! A transmitter that never answers (R209, R216, I8): a request that is reached stays on the port, whether its row is
selected by the byte or reached by a hand-on. -/

namespace Sys2Proof.Machine

section
variable {b : Byte} {s : State} {i : Instr} {x : St} {bytes : List Byte} {op : TimeoutClass}
  {k : Nat → State → Result} (hr : s.rxReady = true) (ha : s.txAns = none)

/-! ### The rows whose own handler transmits -/

section
include hr ha

/-- A row that appends nothing before its request (R102, R162 to R164, R166). -/
theorem runRow_send_of_silence (hwf : WellFormed s.ctx i = true) :
    (runRow i s fun u => u.transmit bytes op k) = .next (s.waitingOn ⟨bytes, op⟩) :=
  (runRow_of_wellFormed hr hwf).trans (State.transmit_of_silence ha)

/-- A row that appends its byte and transmits it alone, whatever follows the answer (R131, R132, R140 to R143). -/
theorem runRow_sendByte_of_silence (hroom : s.pktLen < s.cfg.maxFrame) (hwf : WellFormed s.ctx i = true) :
    (runRow i s fun u => u.append b fun u => u.transmit [b] op k) = .next (s.waitingOnByte b ⟨[b], op⟩) := by
  rw [runRow_of_wellFormed hr hwf, State.append_of_lt hroom]
  exact State.transmit_of_silence (s := s.store b) ha

/-- A row that appends its byte and transmits the whole frame (R130, R134, R136, R139, R169). -/
theorem runRow_sendFrame_of_silence (hroom : s.pktLen < s.cfg.maxFrame) (hwf : WellFormed s.ctx i = true) :
    (runRow i s fun u => u.append b fun u => u.transmit u.pkt op k) =
      .next (s.waitingOnByte b ⟨s.pkt ++ [b], op⟩) := by
  rw [runRow_of_wellFormed hr hwf, State.append_of_lt hroom, State.pkt_store]
  exact State.transmit_of_silence (s := s.store b) ha

theorem exec_prePreamble_of_silence (hs : s.st = .preamble) (hb : b = s.cfg.pre0 ∨ b = s.cfg.pre1) :
    exec (.prePreamble b) s = .next (s.waitingOn ⟨[b], .preamble⟩) :=
  runRow_send_of_silence hr ha (by simp [WellFormed, hs, hb])

theorem exec_zsuDecoderId_of_silence (hs : s.st = .zsuDecoderId) :
    exec (.zsuDecoderId b) s = .next (s.waitingOn ⟨[b], .zsuDecoderId⟩) :=
  runRow_send_of_silence hr ha (by simp [WellFormed, hs])

end

/-! ### The rows that hand their byte on -/

/-- The commands that are transmitted in the step that hands them on, with the operation state that transmits them and
its timeout class (R124, R127). -/
inductive TransmittedCommand : Byte → St → TimeoutClass → Prop
  | decoderId : TransmittedCommand 0x04 .zppDecoderId .decoderIdRead
  | crcXorQuery : TransmittedCommand 0x07 .zppCrcOrXorQuery .crcXorQuery

theorem TransmittedCommand.lt (h : TransmittedCommand b x op) : b < 0x80 := by
  cases h <;> decide

include hr ha

/-- The operation state transmits the command as the first byte of the cleared packet (R140, R142). -/
theorem TransmittedCommand.receive_first (h : TransmittedCommand b x op) (hmax : 1 ≤ s.cfg.maxFrame) :
    receive b (s.clear.setSt x) = .next (s.waitingOnCommand x b op) := by
  cases h with
  | decoderId =>
    exact (exec_eq_receive (i := .zppDecoderIdByte 0x04) rfl).symm.trans
      (runRow_sendByte_of_silence (s := s.clear.setSt _) hr ha hmax rfl)
  | crcXorQuery =>
    exact (exec_eq_receive (i := .zppCrcXorByte 0x07) rfl).symm.trans
      (runRow_sendByte_of_silence (s := s.clear.setSt _) hr ha hmax rfl)

/-- ZppDispatch hands the command on to its operation state (R120). -/
theorem TransmittedCommand.receive_dispatch (h : TransmittedCommand b x op) (hs : s.st = .zppDispatch)
    (hmax : 1 ≤ s.cfg.maxFrame) : receive b s = .next (s.waitingOnCommand x b op) := by
  have hfirst := h.receive_first hr ha hmax
  cases h with
  | decoderId =>
    exact (exec_eq_receive (decode_encode (i := .zppCmdDecoderId) (beq_iff_eq.mpr hs))).symm.trans
      (runRow_command hr hs rfl hfirst)
  | crcXorQuery =>
    exact (exec_eq_receive (decode_encode (i := .zppCmdCrcXorQuery) (beq_iff_eq.mpr hs))).symm.trans
      (runRow_command hr hs rfl hfirst)

section
variable (h0 : b ≠ s.cfg.pre0) (h1 : b ≠ s.cfg.pre1)
include h0 h1

theorem TransmittedCommand.exec_preSelectZpp (h : TransmittedCommand b x op) (hs : s.st = .preamble)
    (hmax : 1 ≤ s.cfg.maxFrame) : exec (.preSelectZpp b) s = .next (s.waitingOnCommand x b op) :=
  (Machine.exec_preSelectZpp hs hr h0 h1 h.lt).trans (h.receive_dispatch (s := s.setSt .zppDispatch) hr ha rfl hmax)

theorem exec_preSelectZsu_of_silence (hs : s.st = .preamble) (hb : 0x80 ≤ b) :
    exec (.preSelectZsu b) s = .next ((s.setSt .zsuDecoderId).waitingOn ⟨[b], .zsuDecoderId⟩) :=
  (exec_preSelectZsu hs hr h0 h1 hb).trans (exec_zsuDecoderId_of_silence (s := s.setSt .zsuDecoderId) hr ha rfl)

end

end

/-- Settles O38: each row is selected by its columns, and its handler goes as far as its request. -/
theorem unansweredRequestStaysOnThePort : Obligations.UnansweredRequestStaysOnThePort := by
  intro s b hr ha
  exact ⟨exec_prePreamble_of_silence hr ha,
    fun hs hroom hn => runRow_sendFrame_of_silence hr ha hroom (by simp [WellFormed, hs, hn]),
    fun hs hroom hlo hhi => runRow_sendByte_of_silence hr ha hroom (by simp [WellFormed, hs, hlo, hhi]),
    fun hs hroom hn => runRow_sendByte_of_silence hr ha hroom (by simp [WellFormed, hs, hn]),
    fun hs hroom hn => runRow_sendFrame_of_silence hr ha hroom (by simpa [WellFormed, hs, tableWriteLen_eq] using hn),
    fun hs hroom hn h1 h2 =>
      runRow_sendFrame_of_silence hr ha hroom (by simp [WellFormed, hs, hn, eraseSecure_iff, h1, h2]),
    fun hs hroom hn => runRow_sendFrame_of_silence hr ha hroom (by simp [WellFormed, hs, hn]),
    fun hs hroom hn => runRow_sendByte_of_silence hr ha hroom (by simp [WellFormed, hs, hn]),
    fun hs hroom hn => runRow_sendByte_of_silence hr ha hroom (by simp [WellFormed, hs, hn]),
    fun hs hroom hn => runRow_sendByte_of_silence hr ha hroom (by simp [WellFormed, hs, hn]),
    fun hs hroom hn => runRow_sendByte_of_silence hr ha hroom (by simp [WellFormed, hs, hn]),
    exec_zsuDecoderId_of_silence hr ha,
    fun hs => runRow_send_of_silence hr ha (by simp [WellFormed, hs]),
    fun hs => runRow_send_of_silence hr ha (by simp [WellFormed, hs]),
    fun hs => runRow_send_of_silence hr ha (by simp [WellFormed, hs]),
    fun hs hroom hn => runRow_sendFrame_of_silence hr ha hroom (by simp [WellFormed, hs, hn])⟩

/-- Settles O58: the byte is handed on until a row transmits it, and what each hand-on does is done. -/
theorem unansweredHandedOnRequestStaysOnThePort : Obligations.UnansweredHandedOnRequestStaysOnThePort := by
  intro s b hr ha hmax
  refine ⟨fun hs => ⟨?_, ?_⟩, fun hs h0 h1 => ⟨?_, ?_, exec_preSelectZsu_of_silence hr ha h0 h1 hs⟩, fun hs hb => ?_⟩
  · exact runRow_command hr hs rfl (TransmittedCommand.decoderId.receive_first hr ha hmax)
  · exact runRow_command hr hs rfl (TransmittedCommand.crcXorQuery.receive_first hr ha hmax)
  · rintro rfl
    exact TransmittedCommand.decoderId.exec_preSelectZpp hr ha h0 h1 hs hmax
  · rintro rfl
    exact TransmittedCommand.crcXorQuery.exec_preSelectZpp hr ha h0 h1 hs hmax
  have handsOn {i : Instr} := (handedOnByteRunsTheReceivingHandler s b i hr).1 hs hb
  have command {x : St} {op : TimeoutClass} (h : TransmittedCommand b x op) (h0 : b ≠ s.cfg.pre0)
      (h1 : b ≠ s.cfg.pre1) : exec (.entryFallthrough b) s = .next (s.waitingOnCommand x b op) :=
    (handsOn (decode_selectZpp (s := s.setSt .preamble) rfl h0 h1 h.lt)).trans
      (h.exec_preSelectZpp (s := s.setSt .preamble) hr ha h0 h1 rfl hmax)
  refine ⟨fun hcode => ?_, fun h0 h1 => ⟨?_, ?_, fun hhigh => ?_⟩⟩
  · exact (handsOn (decode_code (s := s.setSt .preamble) rfl hcode)).trans
      (exec_prePreamble_of_silence (s := s.setSt .preamble) hr ha rfl hcode)
  · rintro rfl
    exact command .decoderId h0 h1
  · rintro rfl
    exact command .crcXorQuery h0 h1
  · exact (handsOn (decode_selectZsu (s := s.setSt .preamble) rfl h0 h1 hhigh)).trans
      (exec_preSelectZsu_of_silence (s := s.setSt .preamble) hr ha h0 h1 rfl hhigh)

end Sys2Proof.Machine
end

section
/-! Power-on reset (R240), and the configuration under every step (R246). -/

namespace Sys2Proof.Machine

/-- Power-on is taken whatever the engine is doing: `rx_ready` is not asked for (R204, R240). -/
theorem step_of_por {s : State} {contents : List Byte} {rest : List EnvEvent} (he : s.env = .por contents :: rest) :
    step s = .next ((s.accept rest s.txAns).powerOn contents) := by
  simp only [step, fetch, he]

/-- A run of a step is side by side with itself, from the state it begins in. -/
theorem twin_of_step_eq_next {s t : State} (h : step s = .next t) : Twin s t t := by
  have hself : SameVisible s s := ⟨rfl, fun _ _ => rfl⟩
  have hstep := hself.twin.step
  rw [h] at hstep
  obtain ⟨ht⟩ := hstep
  exact ht

/-- Settles O7: power-on is taken in every state, and writes each register that R32 names. -/
theorem powerOnResetFromEveryState : Obligations.PowerOnResetFromEveryState :=
  fun _ _ _ he => step_of_por he

/-- Settles O51: every primitive that a handler is made of keeps a run on the configuration it began with. -/
theorem noStepWritesTheConfiguration : Obligations.NoStepWritesTheConfiguration :=
  fun _ _ h => (twin_of_step_eq_next h).cfg

end Sys2Proof.Machine
end
